-- ==== Sys2Proof/Word.lean ====
section
/-! DEFINITION. The word types of the TK-216: the byte of its lines and of its configuration memory, and the 16-bit
word of the frame check and of the flags word. Quantities in engineering units are natural numbers (00_scope.md,
Arithmetic: "All arithmetic is on non-negative integers"). -/

namespace Sys2Proof

/-- One byte: the data of one character (R56), one byte of the configuration memory (R184). -/
abbrev Byte := BitVec 8

/-- Sixteen bits: the frame check of R57, the flags word of R180. -/
abbrev Word16 := BitVec 16

end Sys2Proof
end

