-- ==== Sys2Proof/Syntax.lean ====
section
/-! DEFINITION. The commands of the TK-216: one constructor of `Instr` per row of spec/opcode_table.json, in the
table's order, with the operands the rules give the event. -/

namespace Sys2Proof

/-- The five analog channels (00_scope.md, Channels). -/
inductive Channel where
  /-- Head loss across the bed. -/
  | ch0
  /-- Effluent turbidity. -/
  | ch1
  /-- Bed water level above the media. -/
  | ch2
  /-- Effluent flow. -/
  | ch3
  /-- Washwater tank level. -/
  | ch4
  deriving DecidableEq, Repr

/-- The six valves, in the order of the manual's tables (00_scope.md, Valves). -/
inductive Valve where
  /-- Influent. -/
  | inf
  /-- Effluent. -/
  | eff
  /-- Washwater drain. -/
  | drn
  /-- Washwater supply. -/
  | ww
  /-- Air scour. -/
  | air
  /-- Filter-to-waste. -/
  | ftw
  deriving DecidableEq, Repr

/-- The two ends of a valve's travel: the target of a move request and the place of a limit switch (R145, R146). In
the order in which R144 lists the commanded target. -/
inductive ValveEnd where
  | openEnd
  | closedEnd
  deriving DecidableEq, Repr

/-- The eleven bits of one character in the order of the line, bit 0 first: the start bit, eight data bits, the marker
bit, the stop bit (R56). -/
abbrev LineBits := BitVec 11

/-- The commands. -/
inductive Instr where
  /-- POWER_ON (R159). -/
  | powerOn
  /-- RESET_LINE_ASSERTED (R159). -/
  | resetLineAsserted
  /-- RESET_LINE_RELEASED (R159). -/
  | resetLineReleased
  /-- SAMPLE (R3): one converter code of one channel. -/
  | sample (ch : Channel) (code : BitVec 12)
  /-- SETTLING_EXPIRY (R13). -/
  | settlingExpiry
  /-- CONDITION_SECOND (R19). -/
  | conditionSecond
  /-- CLOSED_WINDOW_END (R29). -/
  | closedWindowEnd
  /-- QUEUE_TRIGGER (R30, R34). -/
  | queueTrigger
  /-- HARD_BREAKTHROUGH (R31, R32, R34). -/
  | hardBreakthrough
  /-- SHORT_RUN (R33, R34). -/
  | shortRun
  /-- WASH_NOW (R47): a good request with this tag has arrived. -/
  | washNow (tag : BitVec 4)
  /-- TAKE_OUT (R48). -/
  | takeOut (tag : BitVec 4)
  /-- RETURN (R49). -/
  | returnFilter (tag : BitVec 4)
  /-- ABORT (R128). -/
  | abort (tag : BitVec 4)
  /-- HOLD (R52). -/
  | hold (tag : BitVec 4)
  /-- RESUME (R52). -/
  | resume (tag : BitVec 4)
  /-- FORGET n (R84): the argument byte as the request carries it. -/
  | forget (tag : BitVec 4) (n : Byte)
  /-- RESTART (R170). -/
  | restart (tag : BitVec 4)
  /-- WRITE_CONFIG (R168): the 96 bytes of the record. -/
  | writeConfig (tag : BitVec 4) (record : List Byte)
  /-- RECORD_WRITE_END (R168). -/
  | recordWriteEnd
  /-- LOCK_CONFIG (R169). -/
  | lockConfig (tag : BitVec 4)
  /-- LOCK_WRITE_END (R169). -/
  | lockWriteEnd
  /-- READ_STATION (R177). -/
  | readStation (tag : BitVec 4)
  /-- READ_PEER n (R178). -/
  | readPeer (tag : BitVec 4) (n : Byte)
  /-- READ_CONFIG (R178). -/
  | readConfig (tag : BitVec 4)
  /-- ANSWER_SENT (R174). -/
  | answerSent
  /-- PORT_QUIET_TIMEOUT (R173). -/
  | portQuietTimeout
  /-- STATUS_TICK (R70). -/
  | statusTick
  /-- ACCESS_WAIT_END (R67). -/
  | accessWaitEnd
  /-- FRAME_SENT (R69). -/
  | frameSent
  /-- ATTEMPT_ABANDONED (R68). -/
  | attemptAbandoned
  /-- FRAME_RECEIVED (R72): the data bytes of the complete frame, lead first. -/
  | frameReceived (frame : List Byte)
  /-- ASSEMBLY_QUIET_TIMEOUT (R71). -/
  | assemblyQuietTimeout
  /-- PEER_AGING (R82): the table second as it ages the entry of one station. -/
  | peerAging (station : BitVec 4)
  /-- OCCUPANCY_LAPSE (R83): the table second as it ends the occupancy of one station. -/
  | occupancyLapse (station : BitVec 4)
  /-- SETTLE_EXPIRY (R104). -/
  | settleExpiry
  /-- SEQUENCE_SECOND (R116). -/
  | sequenceSecond
  /-- LOWER_TIMEOUT (R117). -/
  | lowerTimeout
  /-- AIR_ON_TIME_REACHED (R118). -/
  | airOnTimeReached
  /-- AIR_MAX_TIME (R118). -/
  | airMaxTime
  /-- AIR_WATER_END (R120). -/
  | airWaterEnd
  /-- RINSE_COMPLETE (R121). -/
  | rinseComplete
  /-- SUSPENSION_LIMIT (R121). -/
  | suspensionLimit
  /-- REFILL_TIMEOUT (R124). -/
  | refillTimeout
  /-- RIPENING_SECOND (R137). -/
  | ripeningSecond
  /-- RIPENING_SUCCESS (R140). -/
  | ripeningSuccess
  /-- RIPENING_EXPIRY (R137). -/
  | ripeningExpiry
  /-- DRIVE_SECOND (R147). -/
  | driveSecond
  /-- REVERSAL_PAUSE_END (R148). -/
  | reversalPauseEnd (valve : Valve)
  /-- TARGET_SWITCH_MADE (R147). -/
  | targetSwitchMade (valve : Valve)
  /-- TRAVEL_TIMEOUT (R147). -/
  | travelTimeout (valve : Valve)
  /-- DRIFT (R150). -/
  | drift (valve : Valve)
  /-- FEEDBACK_FAULT (R149). -/
  | feedbackFault (valve : Valve)
  /-- PULSE_ON_END (R155). -/
  | pulseOnEnd
  /-- PULSE_OFF_END (R155). -/
  | pulseOffEnd
  /-- PRESSURE_SWITCH_CHANGE (R156): the level the switch changed to. -/
  | pressureSwitchChange (made : Bool)
  /-- BLOWER_FEEDBACK_TIMEOUT (R156). -/
  | blowerFeedbackTimeout
  /-- LISTEN_END (R165). -/
  | listenEnd
  /-- RECEIVED_CHARACTER (R71): the eleven bits as read from the gallery line (R56). -/
  | receivedCharacter (bits : LineBits)
  /-- REQUEST_CHARACTER (R173): the eleven bits as read from the panel (R172). -/
  | requestCharacter (bits : LineBits)
  /-- LIMIT_SWITCH_CHANGE (R152): which switch of which valve, and the level it changed to. -/
  | limitSwitchChange (valve : Valve) (switch : ValveEnd) (made : Bool)
  /-- OWED_REFUSAL_SENT (R174). -/
  | owedRefusalSent
  deriving DecidableEq, Repr

end Sys2Proof
end

