-- ==== Sys2Proof/Decode.lean ====
section
/-! DEFINITION. The decoder of table words. spec/opcode_table.json gives none of its 62 rows any bits ("fields" is
empty in every row), so no word spells a command. The byte forms the spec does give, link frames and panel requests
(12_frame_and_record_layouts.md), are read where their characters arrive, in Machine/Operands.lean. -/

namespace Sys2Proof

/-- The command that a word of the table spells: none, for every word, since the table gives no row any bits. -/
def decodeTableWord (_nbits _w : Nat) : Option Instr := none

end Sys2Proof
end

