-- ==== Sys2Proof/Config.lean ====
section
/-! DEFINITION. What the manual fixes as a constant of the part, and the free values: constants without a body for
what the manual leaves open. Nothing can be proved of a free value. -/

namespace Sys2Proof

/-! ## Constants of the part -/

/-- The least code of a valid sample (R3). -/
def Config.codeMin : Nat := 614
/-- The greatest code of a valid sample (R3). -/
def Config.codeMax : Nat := 3583
/-- The code that reads as lo (R5). -/
def Config.codeLo : Nat := 683
/-- The code that reads as hi (R5). -/
def Config.codeHi : Nat := 3413
/-- Codes in the sample window (R4). -/
def Config.windowSize : Nat := 8
/-- Invalid samples in a row that fault a channel (R6, R7). -/
def Config.invalidLimit : Nat := 3
/-- Valid samples in a row that clear a channel's fault (R8). -/
def Config.validLimit : Nat := 8
/-- Seconds of turbidity settling (R13). -/
def Config.settlingTime : Nat := 60
/-- Seconds of blower output without feedback that fault the blower (R156). -/
def Config.feedbackLimit : Nat := 10
/-- Two drift losses less than this many seconds apart fault the valve (R150). -/
def Config.driftWindow : Nat := 60
/-- Attempts after which a frame is discarded (R68). -/
def Config.attemptLimit : Nat := 8
/-- Quiet bit times at which an assembly in progress has been discarded: more than 22 (R71). -/
def Config.quietLimit : Nat := 23
/-- Frames the transmit queue holds (R63). -/
def Config.queueSize : Nat := 4
/-- Refusals the service port can owe (R171). -/
def Config.owedSize : Nat := 4
/-- The code by which the lock byte reads UNLOCKED (R185). -/
def Config.unlockedCode : Byte := 0xFF
/-- The code LOCK-CONFIG writes (R185). -/
def Config.lockedCode : Byte := 0x00
/-- The greatest of the durations, run times, flows and wash clocks held in two bytes (00_scope.md, Conventions). -/
def Config.max16 : Nat := 65535

/-! ## Free values -/

/-- FREE VALUE. Whether a byte of a record write that a start-up cut off holds the new content (`true`) or the old one
(R168: "any mixture of old and new contents"); the first argument numbers the cut-off write, the second is the byte's
address. -/
opaque Config.cutByteIsNew : Nat → Nat → Bool

/-- FREE VALUE. What byte 127 holds after a lock write was cut off (R169: "the old code, the new code or another
value"); the argument numbers the cut-off write. -/
opaque Config.cutLockByte : Nat → Byte

/-- FREE VALUE. How many bytes beyond the first a station time takes in an answer: R183 gives each value "the fewest
whole bytes that can hold every value of its range", and R75 gives occupancy-until no range. A READ-PEER answer with an
entry has 29 bytes besides it, and no answer has more than 255 (R182). -/
opaque Config.stationTimeMore : Fin 226

/-- FREE VALUE. Whether a release of the pressure switch, told after AIR's end with T_aw = 0 in the second of that end, is
a loss that came before the blower was stopped (`true`): R119 takes a blower fault of that second, and R156 makes the
release at the end of an on-period none. The argument is the station time (entry 17). -/
opaque Config.releaseBeforeStop : Nat → Bool

/-- How many bytes a station time takes in an answer: 1 to 226 (R182, R183). -/
def Config.stationTimeBytes : Nat := Config.stationTimeMore.val + 1

end Sys2Proof
end

