-- ==== Sys2Proof/Machine/State.lean ====
section
/-! DEFINITION. The state of the TK-216, block by block as 00_scope.md lists them, the state at reset, and the
reasons a step can stop. Plain data throughout. -/

namespace Sys2Proof.Machine

/-! ## Reasons a step stops -/

/-- No command of the TK-216 stops the machine: every event has an effect or changes nothing (entry 3). So there is
no fault: the type is empty, which is safe. -/
inductive Fault where
  deriving DecidableEq, Repr

/-- Why a command has no meaning. -/
inductive Refusal where
  /-- Raised by an arm of `exec` whose command has no meaning yet, and by nothing else; safe. No arm does. -/
  | notModelled (mnemonic : String)
  deriving DecidableEq, Repr

/-! ## Configuration -/

/-- The 43 fields of the configuration record, in index order (R162). -/
structure Params where
  /-- N_g, stations in the gallery. -/
  nG : Nat
  /-- W, washes at one time. -/
  w : Nat
  /-- S, status interval, seconds. -/
  s : Nat
  /-- A, filter area, m². -/
  area : Nat
  /-- R_max, tenths of m/h. -/
  rMax : Nat
  /-- H_t, terminal head loss, cm. -/
  hT : Nat
  /-- T_max, longest run, minutes. -/
  tMax : Nat
  /-- T_min, closed window, minutes. -/
  tMin : Nat
  /-- Q_thr, queue threshold. -/
  qThr : Nat
  /-- U_t, turbidity trigger, mNTU. -/
  uT : Nat
  /-- U_hard, hard breakthrough limit, mNTU. -/
  uHard : Nat
  /-- U_ripen, ripening limit, mNTU. -/
  uRipen : Nat
  lo0 : Nat
  hi0 : Nat
  lo1 : Nat
  hi1 : Nat
  lo2 : Nat
  hi2 : Nat
  lo3 : Nat
  hi3 : Nat
  lo4 : Nat
  hi4 : Nat
  /-- L_low, cm. -/
  lLow : Nat
  /-- L_high, cm. -/
  lHigh : Nat
  /-- L_start, cm. -/
  lStart : Nat
  /-- L_floor, cm. -/
  lFloor : Nat
  /-- L_resume, cm. -/
  lResume : Nat
  /-- T_lower, seconds; so the times below. -/
  tLower : Nat
  tAir : Nat
  tOn : Nat
  tOff : Nat
  tAw : Nat
  tRinse : Nat
  tSusp : Nat
  tRefill : Nat
  tRhold : Nat
  tRmax : Nat
  /-- T_travel of the six valves, seconds. -/
  trInf : Nat
  trEff : Nat
  trDrn : Nat
  trWw : Nat
  trAir : Nat
  trFtw : Nat
  deriving DecidableEq, Repr

/-! ## Measurement unit -/

/-- Channel status, in the order of R1. -/
inductive ChannelStatus where
  | notReady
  | valid
  | fault
  deriving DecidableEq, Repr

/-- The record of one channel (R1). -/
structure ChannelRec where
  /-- Sample window, oldest code first. -/
  window : List Nat
  filtered : Option Nat
  status : ChannelStatus
  invalidRun : Nat
  validRun : Nat
  deriving DecidableEq, Repr

/-- The start value of a channel record (R1). -/
def ChannelRec.start : ChannelRec := ⟨[], none, .notReady, 0, 0⟩

/-- The measurement unit: five channel records, the settling and decision fields of CH1 and the channel-fault flag. -/
structure Measurement where
  ch0 : ChannelRec
  ch1 : ChannelRec
  ch2 : ChannelRec
  ch3 : ChannelRec
  ch4 : ChannelRec
  /-- Elapsed seconds of settling, 0..59, or not running (R12, R13). -/
  settling : Option Nat
  /-- The decision value of CH1 (R11). -/
  decision : Option Nat
  /-- The channel-fault flag (R10). -/
  channelFault : Bool
  deriving DecidableEq, Repr

/-- Start values (R1, R17). -/
def Measurement.start : Measurement :=
  ⟨.start, .start, .start, .start, .start, none, none, false⟩

/-! ## Condition unit -/

/-- The condition record (R18). -/
structure Condition where
  /-- Run time, minutes. -/
  runTime : Nat
  /-- Seconds sub-count, 0..59. -/
  runSeconds : Nat
  /-- h0, cm. -/
  baseline : Nat
  cH : Nat
  cT : Nat
  cU : Nat
  urgency : Nat
  closedWindow : Bool
  rtEstimated : Bool
  shortRun : Bool
  deriving DecidableEq, Repr

/-- Start values (R18). -/
def Condition.start : Condition := ⟨0, 0, 0, 0, 0, 0, 0, false, false, false⟩

/-! ## Rotation controller -/

/-- The service states, START first, in the order of R36 and of the codes of R179. -/
inductive ServiceState where
  | start
  | filtering
  | queued
  | claiming
  | washing
  | ripening
  | standby
  | isolated
  deriving DecidableEq, Repr

/-- Why admission or a claim failed (R92, R99, R102, R104). -/
inductive Reason where
  | hold
  | silent
  | slots
  | rate
  | supply
  deriving DecidableEq, Repr

/-- The claimed urgency and claimed run time, "both present or both absent" (R90). -/
structure Claimed where
  urgency : Nat
  runTime : Nat
  deriving DecidableEq, Repr

/-- The claim flags of a claim (R90). -/
structure ClaimFlags where
  held : Bool
  manual : Bool
  deriving DecidableEq, Repr

/-- The station record with the admission fields (R36, R90) and the ripen-fail flag (R134). -/
structure Rotation where
  service : ServiceState
  held : Bool
  manual : Bool
  recovery : Bool
  holdAsserted : Bool
  deferredTakeOut : Bool
  deferredWashNow : Bool
  /-- Claim serial, 0..255. -/
  serial : Nat
  claimed : Option Claimed
  claimFlags : Option ClaimFlags
  settleDeadline : Option Nat
  /-- The serial of the outstanding CLAIM. -/
  outstanding : Option Nat
  lastRefusal : Option Reason
  predictedRate : Option Nat
  oversub : Bool
  ripenFail : Bool
  deriving DecidableEq, Repr

/-- Start values (R36, R90, R134). -/
def Rotation.start : Rotation :=
  ⟨.start, false, false, false, false, false, false, 0, none, none, none, none, none, none, false, false⟩

/-! ## Link controller -/

/-- How a wash ended (R131). -/
inductive WashOutcome where
  | complete
  | aborted
  | fault
  deriving DecidableEq, Repr

/-- The content of a STATUS as the station forms it (R59). -/
structure StatusContent where
  state : ServiceState
  /-- Phase code (R179); 0 outside WASHING. -/
  phase : Nat
  flags : Word16
  urgency : Nat
  flow : Nat
  runTime : Nat
  interval : Nat
  bound : Nat
  deriving DecidableEq, Repr

/-- The content of a CLAIM (R60). -/
structure ClaimContent where
  urgency : Nat
  runTime : Nat
  held : Bool
  manual : Bool
  serial : Nat
  bound : Nat
  deriving DecidableEq, Repr

/-- A frame with its content formed (R55, R58). -/
inductive Frame where
  | status (c : StatusContent)
  | claim (c : ClaimContent)
  | yield (serial : Nat)
  | done (outcome : WashOutcome) (duration : Nat)
  deriving DecidableEq, Repr

/-- The link controller record (R55). -/
structure Link where
  /-- Transmit queue, head first. -/
  queue : List Frame
  /-- The attempt count of the current transmission: the head of the queue is started when it is present (R64). -/
  attempt : Option Nat
  statusDue : Bool
  /-- Quiet bit times counted by the access wait, or not running (R67). -/
  accessWait : Option Nat
  /-- The characters' data of the frame being received, lead first. -/
  assembly : Option (List Byte)
  receiver : Bool
  statusTick : Option Nat
  linkFault : Bool
  dupAddress : Bool
  /-- How many characters of the attempt being driven have echoed (R68); 0 while none is driven. -/
  echoed : Nat
  /-- The access wait was last started by the line going quiet and not later: it has counted every quiet bit time since
  (R67; entry 2). -/
  waitFromQuiet : Bool
  deriving DecidableEq, Repr

/-- Start values (R55). -/
def Link.start : Link := ⟨[], none, false, none, none, false, none, false, false, 0, false⟩

/-! ## Peer table -/

/-- Presence, in the order of R75. -/
inductive Presence where
  | fresh
  | stale
  | absent
  deriving DecidableEq, Repr

/-- The claim part of a peer entry (R75). -/
structure PeerClaim where
  serial : Option Nat
  urgency : Nat
  runTime : Nat
  held : Bool
  manual : Bool
  deriving DecidableEq, Repr

/-- A peer entry (R75). -/
structure PeerEntry where
  /-- Station number, the key. -/
  number : Nat
  presence : Presence
  /-- Last heard, station time. -/
  lastHeard : Nat
  senderS : Option Nat
  state : ServiceState
  flags : Option Word16
  urgency : Nat
  runTime : Nat
  flow : Option Nat
  /-- Occupancy-until, station time. -/
  occupancyUntil : Option Nat
  claim : Option PeerClaim
  deriving DecidableEq, Repr

/-! ## Wash sequencer -/

/-- The activity of the sequencer, in the order of R112 and of the phase codes of R179. -/
inductive Activity where
  | idle
  | lower
  | air
  | airWater
  | rinse
  | refill
  | abortPath
  deriving DecidableEq, Repr

/-- Sub-step of a phase, in the order of R112. -/
inductive SubStep where
  | closing
  | opening
  | running
  deriving DecidableEq, Repr

/-- Rinse water, in the order of R112. -/
inductive RinseWater where
  | flowing
  | suspended
  | resuming
  deriving DecidableEq, Repr

/-- Abort cause, in the order of R112. -/
inductive AbortCause where
  | operator
  | fault
  deriving DecidableEq, Repr

/-- The sequencer record (R112). -/
structure Sequencer where
  activity : Activity
  subStep : Option SubStep
  phaseElapsed : Nat
  /-- Blower-on accumulated. -/
  blowerOn : Nat
  rinseElapsed : Nat
  rinseWater : Option RinseWater
  suspTotal : Nat
  washClock : Nat
  abortCause : Option AbortCause
  airSkipped : Bool
  shortRinse : Bool
  levelSlow : Bool
  /-- Remaining-wash bound (R126). -/
  bound : Nat
  /-- Full wash bound (R127). -/
  fullBound : Nat
  deriving DecidableEq, Repr

/-- Start values (R112). DESIGN CHOICE (entry 13), unsafe: the full wash bound is 0 before LOAD forms it. -/
def Sequencer.start : Sequencer :=
  ⟨.idle, none, 0, 0, 0, none, 0, 0, none, false, false, false, 0, 0⟩

/-- Ripening step, in the order of R134. -/
inductive RipeningStep where
  | idle
  | closing
  | opening
  | running
  | ending
  deriving DecidableEq, Repr

/-- Basis of a ripening, in the order of R134. -/
inductive Basis where
  | verified
  | onTime
  deriving DecidableEq, Repr

/-- The ripening record (R134). -/
structure Ripening where
  step : RipeningStep
  elapsed : Nat
  /-- Hold timer. -/
  hold : Nat
  basis : Option Basis
  /-- Ripen-unverified flag. -/
  unverified : Bool
  deriving DecidableEq, Repr

/-- Start values (R134). -/
def Ripening.start : Ripening := ⟨.idle, 0, 0, none, false⟩

/-! ## Drive unit -/

/-- Position state, in the order of R144. -/
inductive PosState where
  | unknown
  | closed
  | opening
  | opened
  | closing
  | fault
  deriving DecidableEq, Repr

/-- Drive of a valve (R144). -/
inductive DriveState where
  | idle
  | pause
  | energized
  deriving DecidableEq, Repr

/-- Who can have a request waiting on a valve (R144). -/
inductive Requester where
  | sequencer
  | rotation
  | startup
  deriving DecidableEq, Repr

/-- Fault kind, in the order of R144. -/
inductive FaultKind where
  | stuck
  | feedback
  | drift
  deriving DecidableEq, Repr

/-- A valve record (R144). -/
structure ValveRec where
  pos : PosState
  commanded : Option ValveEnd
  drive : DriveState
  timer : Nat
  redrive : Bool
  waiting : List Requester
  lastTravel : Option Nat
  slow : Bool
  faultKind : Option FaultKind
  lastDrift : Option Nat
  deriving DecidableEq, Repr

/-- Start values (R144). -/
def ValveRec.start : ValveRec := ⟨.unknown, none, .idle, 0, false, [], none, false, none, none⟩

/-- Blower mode, in the order of R154. -/
inductive BlowerMode where
  | stopped
  | pulsed
  | continuous
  | pulseEnded
  deriving DecidableEq, Repr

/-- Pulse sub-state with its elapsed seconds (R154). -/
structure Pulse where
  on : Bool
  elapsed : Nat
  deriving DecidableEq, Repr

/-- The blower record (R154). -/
structure BlowerRec where
  mode : BlowerMode
  output : Bool
  pulse : Option Pulse
  feedbackTimer : Nat
  feedbackSeen : Bool
  fault : Bool
  deriving DecidableEq, Repr

/-- Start values (R154). -/
def BlowerRec.start : BlowerRec := ⟨.stopped, false, none, 0, false, false⟩

/-- The drive unit: six valve records, the blower record and the valve-fault flag (R144, R154); and, the model's own, the
second in which AIR's end with T_aw = 0 last turned the blower output off, in which R119 still takes a blower fault
(entry 17). -/
structure Drive where
  inf : ValveRec
  eff : ValveRec
  drn : ValveRec
  ww : ValveRec
  air : ValveRec
  ftw : ValveRec
  blower : BlowerRec
  valveFault : Bool
  airEndStop : Option Nat
  deriving DecidableEq, Repr

/-- Start values (R144, R154). -/
def Drive.start : Drive := ⟨.start, .start, .start, .start, .start, .start, .start, false, none⟩

/-! ## Start-up controller -/

/-- Stage, in the order of R158. -/
inductive Stage where
  | safe
  | load
  | configFault
  | inputs
  | survey
  | listen
  | release
  | recovery
  | running
  deriving DecidableEq, Repr

/-- Survey selection (R158, R164). -/
inductive Selection where
  | filtering
  | standby
  | recovery
  deriving DecidableEq, Repr

/-- Memory write in progress (R158). -/
inductive MemWrite where
  | none
  | record
  | lock
  deriving DecidableEq, Repr

/-- The working copy (R158, R161): the configuration in force, and bytes 0..95 of the record it was formed from, which
READ-CONFIG compares (R178). DEDUCED (entry 20): bytes 86..95 are held too, though they hold no field. -/
structure WorkingCopy where
  params : Params
  bytes : List Byte
  deriving DecidableEq, Repr

/-- The start-up controller record (R158). -/
structure Startup where
  stage : Stage
  number : Option Nat
  working : Option WorkingCopy
  /-- Config-fault index. -/
  faultIndex : Option Nat
  /-- Lock state: `true` is LOCKED. -/
  locked : Bool
  selection : Option Selection
  listenElapsed : Nat
  memWrite : MemWrite
  deriving DecidableEq, Repr

/-- Start values (R158). DESIGN CHOICE (entry 7), unsafe: UNLOCKED until LOAD reads the lock byte. -/
def Startup.start : Startup := ⟨.safe, none, none, none, false, none, 0, .none⟩

/-! ## Service port -/

/-- The thirteen requests with their arguments (R182). -/
inductive ReqKind where
  | readStation
  | readPeer (n : Byte)
  | readConfig
  | washNow
  | takeOut
  | returnFilter
  | abort
  | hold
  | resume
  | forget (n : Byte)
  | restart
  | writeConfig (record : List Byte)
  | lockConfig
  deriving DecidableEq, Repr

/-- A checked request with its tag (R171). -/
structure Request where
  kind : ReqKind
  tag : BitVec 4
  deriving DecidableEq, Repr

/-- A formed answer: its lead character, the bytes after its length character (R182), and the count of its characters
sent. -/
structure Answer where
  lead : Byte
  content : List Byte
  sent : Nat
  deriving DecidableEq, Repr

/-- The service port record (R171). -/
structure Port where
  /-- The characters' data of the request being received, lead first. -/
  assembly : Option (List Byte)
  processing : Option Request
  pendingReq : Option Request
  owed : List Request
  answer : Option Answer
  deriving DecidableEq, Repr

/-- Start values (R171). -/
def Port.start : Port := ⟨none, none, none, [], none⟩

/-! ## Pins -/

/-- The levels of a valve's two limit switches: `true` is made (R144, R152). -/
structure Switches where
  closedMade : Bool
  openMade : Bool
  deriving DecidableEq, Repr

/-- The inputs of the part. -/
structure Pins where
  straps : BitVec 4
  /-- `true` is asserted. -/
  resetLine : Bool
  inf : Switches
  eff : Switches
  drn : Switches
  ww : Switches
  air : Switches
  ftw : Switches
  /-- The blower pressure switch: `true` is made. -/
  pressure : Bool
  deriving DecidableEq, Repr

/-- DESIGN CHOICE (entry 7), unsafe: straps 0, reset line not asserted, no switch made. -/
def Pins.start : Pins :=
  ⟨0, false, ⟨false, false⟩, ⟨false, false⟩, ⟨false, false⟩, ⟨false, false⟩, ⟨false, false⟩, ⟨false, false⟩, false⟩

/-! ## Configuration memory -/

/-- The configuration memory: (address, byte) pairs in canonical form. -/
abbrev Memory := List Host.Cell

/-- What an unlisted address reads as: the memory as the part leaves manufacture, "the lock byte at FF and every byte
of 0..126 at 0" (R185). -/
def Memory.factory (addr : Nat) : Byte := if addr = 127 then 0xFF else 0x00

/-! ## Delivered triggers -/

/-- The three triggers of the condition unit (R30, R31, R33). -/
inductive Trigger where
  | queueTrigger
  | hardBreakthrough
  | shortRun
  deriving DecidableEq, Repr

/-- A trigger delivered to the rotation controller as an event: it carries the service state in which the condition unit
found it (R34). -/
structure Delivery where
  trigger : Trigger
  foundIn : ServiceState
  deriving DecidableEq, Repr

/-! ## The state -/

/-- The state of the part. -/
structure State where
  /-- Station time, whole seconds (R158). -/
  now : Nat
  pins : Pins
  mem : Memory
  meas : Measurement
  cond : Condition
  rot : Rotation
  link : Link
  peers : List PeerEntry
  seq : Sequencer
  rip : Ripening
  drive : Drive
  startup : Startup
  port : Port
  /-- Triggers delivered to the rotation controller and not yet taken (R34; entry 4). -/
  delivered : List Delivery
  /-- How many free values have been used (entries 9, 10). -/
  freeCount : Nat
  /-- The commands that wait, first in, first out. -/
  pending : List Instr
  deriving DecidableEq, Repr

/-- The part right after reset: every block at its start values at the beginning of SAFE (R158, R159), the memory as
it left manufacture (R185), nothing queued. -/
def State.reset : State where
  now := 0
  pins := .start
  mem := []
  meas := .start
  cond := .start
  rot := .start
  link := .start
  peers := []
  seq := .start
  rip := .start
  drive := .start
  startup := .start
  port := .start
  delivered := []
  freeCount := 0
  pending := []

end Sys2Proof.Machine
end

