-- ==== Sys2Proof/Machine/Flags.lean ====
section
/-! DEFINITION. The flags word of R180 and the flags that follow from records: channel-fault (R10), valve-fault (R144). -/

namespace Sys2Proof.Machine

/-- One bit of a flags word: set or clear. -/
def flagBit (i : Nat) (b : Bool) : Word16 := if b then BitVec.twoPow 16 i else 0#16

/-- in-service is bit 15 of the flags word (R180). -/
def flagInService (w : Word16) : Bool := w.getLsbD 15
/-- held is bit 14. -/
def flagHeld (w : Word16) : Bool := w.getLsbD 14
/-- manual is bit 13. -/
def flagManual (w : Word16) : Bool := w.getLsbD 13
/-- hold-asserted is bit 11. -/
def flagHoldAsserted (w : Word16) : Bool := w.getLsbD 11

/-- A flags word with its in-service flag cleared and its other flags as they stood (R81). -/
def clearInService (w : Word16) : Word16 := w &&& ~~~(BitVec.twoPow 16 15)

/-- EFF is commanded open: the station is in service (R41). -/
def State.inService (s : State) : Bool := s.drive.eff.commanded == some .openEnd

/-- The flags word that a STATUS formed now carries (R59, R180), bit 15 first. -/
def State.flagsWord (s : State) : Word16 :=
  flagBit 15 s.inService ||| flagBit 14 s.rot.held ||| flagBit 13 s.rot.manual ||| flagBit 12 s.rot.recovery
    ||| flagBit 11 s.rot.holdAsserted ||| flagBit 10 s.rot.oversub ||| flagBit 9 s.cond.rtEstimated
    ||| flagBit 8 s.seq.airSkipped ||| flagBit 7 s.seq.shortRinse ||| flagBit 6 s.seq.levelSlow
    ||| flagBit 5 s.rip.unverified ||| flagBit 4 s.drive.valveFault ||| flagBit 3 s.meas.channelFault
    ||| flagBit 2 s.cond.shortRun ||| flagBit 1 s.rot.ripenFail ||| flagBit 0 s.link.linkFault

/-- At least one of the five channels has status FAULT (R10). -/
def Measurement.anyFault (m : Measurement) : Bool :=
  m.ch0.status == .fault || m.ch1.status == .fault || m.ch2.status == .fault || m.ch3.status == .fault
    || m.ch4.status == .fault

/-- At least one valve record is in FAULT (R144). -/
def Drive.anyFault (d : Drive) : Bool :=
  d.inf.pos == .fault || d.eff.pos == .fault || d.drn.pos == .fault || d.ww.pos == .fault || d.air.pos == .fault
    || d.ftw.pos == .fault

end Sys2Proof.Machine
end

