-- ==== Sys2Proof/Machine/Operands.lean ====
section
/-! DEFINITION. The byte forms of 12_frame_and_record_layouts.md: numbers as bytes, the frame check, link frames and
panel requests written and read, the codes of R179, and the layout of answers (R182, R183). -/

namespace Sys2Proof.Machine

/-! ## Bytes -/

/-- A number in `w` bytes, most significant byte first (00_scope.md, Multi-byte fields). -/
def natBytes : Nat → Nat → List Byte
  | 0, _ => []
  | w + 1, n => natBytes w (n / 256) ++ [BitVec.ofNat 8 n]

/-- The number that bytes hold, most significant byte first. -/
def bytesNat (bs : List Byte) : Nat := bs.foldl (fun acc b => acc * 256 + b.toNat) 0

/-- The high four bits of a byte. -/
def highNibble (b : Byte) : Nat := b.toNat / 16

/-- The low four bits of a byte. -/
def lowNibble (b : Byte) : Nat := b.toNat % 16

/-! ## The frame check (R57) -/

/-- One bit of the check: the register shifted left, with the polynomial x^16 + x^12 + x^5 + 1 where a one left it. -/
def crcShift (c : Word16) : Word16 := if c.msb then (c <<< 1) ^^^ 0x1021#16 else c <<< 1

/-- One byte of the check, most significant bit first. -/
def crcByte (c : Word16) (b : Byte) : Word16 :=
  (fun x => crcShift (crcShift (crcShift (crcShift (crcShift (crcShift (crcShift (crcShift x))))))))
    (c ^^^ (b.setWidth 16 <<< 8))

/-- The check over bytes in order: the register starts at FFFF, nothing is combined with the result (R57). -/
def crc16 (bs : List Byte) : Word16 := bs.foldl crcByte 0xFFFF#16

/-- The two check characters, high byte first. -/
def crcBytes (bs : List Byte) : List Byte := natBytes 2 (crc16 bs).toNat

/-- Bytes followed by their check. -/
def withCheck (bs : List Byte) : List Byte := bs ++ crcBytes bs

/-! ## Characters on a line (R56, R172) -/

/-- One character: its data byte, its marker bit, and whether its stop-bit position is low, a framing error (R56). -/
structure LineChar where
  data : Byte
  marker : Bool
  framingError : Bool
  deriving DecidableEq, Repr

/-- The eleven bits of a character in the order of the line, bit 0 first: a start bit, low; eight data bits, least
significant first; the marker bit; a stop bit, high unless there is a framing error (R56). -/
def LineChar.bits (c : LineChar) : LineBits :=
  BitVec.ofBool (!c.framingError) ++ (BitVec.ofBool c.marker ++ (c.data ++ 0#1))

/-- The character that eleven bits are. DEDUCED (entry 6): with the start-bit position high no character has begun,
since the line idles high (R56). -/
def readChar (b : LineBits) : Option LineChar :=
  if b.getLsbD 0 then none else some ⟨b.extractLsb' 1 8, b.getLsbD 9, !b.getLsbD 10⟩

/-- The characters that carry bytes on a line: the marker bit is 1 in the lead character alone (R56, R172). -/
def lineChars : List Byte → List LineChar
  | [] => []
  | lead :: rest => ⟨lead, true, false⟩ :: rest.map (fun b => ⟨b, false, false⟩)

/-- The bits of those characters, character by character. -/
def lineBits (bytes : List Byte) : List LineBits := (lineChars bytes).map LineChar.bits

/-! ## Codes (R179) -/

/-- The code of a service state (R179). -/
def serviceCode : ServiceState → Nat
  | .start => 0
  | .filtering => 1
  | .queued => 2
  | .claiming => 3
  | .washing => 4
  | .ripening => 5
  | .standby => 6
  | .isolated => 7

/-- The service state that a STATUS nibble names: 0 and 8 to 15 name none (R181). -/
def serviceOfCode : Nat → Option ServiceState
  | 1 => some .filtering
  | 2 => some .queued
  | 3 => some .claiming
  | 4 => some .washing
  | 5 => some .ripening
  | 6 => some .standby
  | 7 => some .isolated
  | _ => none

/-- The code of a wash phase, the abort path or none (R179). -/
def activityCode : Activity → Nat
  | .idle => 0
  | .lower => 1
  | .air => 2
  | .airWater => 3
  | .rinse => 4
  | .refill => 5
  | .abortPath => 6

/-- The code of a DONE outcome (R179). -/
def outcomeCode : WashOutcome → Nat
  | .complete => 0
  | .aborted => 1
  | .fault => 2

/-- The outcome that a DONE byte names (R76). -/
def outcomeOfCode : Nat → Option WashOutcome
  | 0 => some .complete
  | 1 => some .aborted
  | 2 => some .fault
  | _ => none

/-- The code of the last refusal reason, 0 for absent (R179). -/
def reasonCode : Option Reason → Nat
  | none => 0
  | some .hold => 1
  | some .silent => 2
  | some .slots => 3
  | some .rate => 4
  | some .supply => 5

/-! ## Link frames (R58, R180) -/

/-- The four kinds of frame (R58). -/
inductive FrameKind where
  | status
  | claim
  | yield
  | done
  deriving DecidableEq, Repr

/-- The kind of a formed frame. -/
def Frame.kind : Frame → FrameKind
  | .status _ => .status
  | .claim _ => .claim
  | .yield _ => .yield
  | .done _ _ => .done

/-- The class of a frame kind (R58). -/
def FrameKind.cls : FrameKind → Nat
  | .status => 1
  | .claim | .yield | .done => 0

/-- The kind code in the high four bits of the lead character (R180). -/
def FrameKind.code : FrameKind → Nat
  | .status => 1
  | .claim => 2
  | .yield => 3
  | .done => 4

/-- The kind that a code names: 0 and 5 to 15 name none (R58). -/
def frameKindOfCode : Nat → Option FrameKind
  | 1 => some .status
  | 2 => some .claim
  | 3 => some .yield
  | 4 => some .done
  | _ => none

/-- The payload length of a kind (R58, R72). -/
def FrameKind.payloadLength : FrameKind → Nat
  | .status => 12
  | .claim => 8
  | .yield => 1
  | .done => 3

/-- The claim-flags byte: bit 1 held, bit 0 manual, the rest 0 (R180, R181). -/
def claimFlagsByte (held manual : Bool) : Byte := BitVec.ofNat 8 (2 * held.toNat + manual.toNat)

/-- The payload bytes of a frame, by the table of R180. -/
def Frame.payload : Frame → List Byte
  | .status c =>
    natBytes 1 (serviceCode c.state * 16 + c.phase) ++ natBytes 2 c.flags.toNat ++ natBytes 2 c.urgency
      ++ natBytes 2 c.flow ++ natBytes 2 c.runTime ++ natBytes 1 c.interval ++ natBytes 2 c.bound
  | .claim c =>
    natBytes 2 c.urgency ++ natBytes 2 c.runTime ++ [claimFlagsByte c.held c.manual] ++ natBytes 1 c.serial
      ++ natBytes 2 c.bound
  | .yield serial => natBytes 1 serial
  | .done outcome duration => natBytes 1 (outcomeCode outcome) ++ natBytes 2 duration

/-- The bytes of a whole frame from a station: lead, length, payload, check (R57, R180). -/
def Frame.bytes (source : Nat) (f : Frame) : List Byte :=
  withCheck ([BitVec.ofNat 8 (f.kind.code * 16 + source), BitVec.ofNat 8 f.kind.payloadLength] ++ f.payload)

/-- A frame as received: its kind, source and payload bytes, after the checks of R72. -/
structure GoodFrame where
  kind : FrameKind
  source : Nat
  payload : List Byte
  deriving DecidableEq, Repr

/-- The checks of R72 on a complete frame: the check characters, the kind, the length of the kind, the source below
N_g. -/
def goodFrame (nG : Nat) (bytes : List Byte) : Option GoodFrame :=
  match bytes with
  | lead :: len :: rest =>
    if rest.length = len.toNat + 2
        ∧ rest.drop len.toNat = crcBytes (lead :: len :: rest.take len.toNat) then
      match frameKindOfCode (highNibble lead) with
      | some k =>
        if len.toNat = k.payloadLength ∧ lowNibble lead < nG then
          some ⟨k, lowNibble lead, rest.take len.toNat⟩
        else none
      | none => none
    else none
  | _ => none

/-- What a STATUS tells a receiving station: the phase nibble is not read (R181). -/
structure StatusHeard where
  state : ServiceState
  flags : Word16
  urgency : Nat
  flow : Nat
  runTime : Nat
  interval : Nat
  bound : Nat
  deriving DecidableEq, Repr

/-- The contents of a received frame whose fields lie in their ranges (R76). -/
inductive Heard where
  | status (c : StatusHeard)
  | claim (c : ClaimContent)
  | yield (serial : Nat)
  | done (outcome : WashOutcome) (duration : Nat)
  deriving DecidableEq, Repr

/-- The kind of a received frame. -/
def Heard.kind : Heard → FrameKind
  | .status _ => .status
  | .claim _ => .claim
  | .yield _ => .yield
  | .done _ _ => .done

/-- Reading a payload, with the range checks of R76: none when one fails. -/
def readPayload : FrameKind → List Byte → Option Heard
  | .status, [st, f1, f0, u1, u0, w1, w0, t1, t0, iv, b1, b0] =>
    match serviceOfCode (highNibble st) with
    | some state =>
      if bytesNat [u1, u0] ≤ 1000 ∧ 1 ≤ iv.toNat ∧ iv.toNat ≤ 10 then
        some (.status ⟨state, f1 ++ f0, bytesNat [u1, u0], bytesNat [w1, w0], bytesNat [t1, t0], iv.toNat,
          bytesNat [b1, b0]⟩)
      else none
    | none => none
  | .claim, [u1, u0, t1, t0, fl, sn, b1, b0] =>
    if bytesNat [u1, u0] ≤ 1000 then
      some (.claim ⟨bytesNat [u1, u0], bytesNat [t1, t0], fl.getLsbD 1, fl.getLsbD 0, sn.toNat, bytesNat [b1, b0]⟩)
    else none
  | .yield, [sn] => some (.yield sn.toNat)
  | .done, [o, d1, d0] =>
    match outcomeOfCode o.toNat with
    | some outcome => some (.done outcome (bytesNat [d1, d0]))
    | none => none
  | _, _ => none

/-- What a receiver reads from a formed frame (R181). -/
def Frame.heard : Frame → Heard
  | .status c => .status ⟨c.state, c.flags, c.urgency, c.flow, c.runTime, c.interval, c.bound⟩
  | .claim c => .claim c
  | .yield serial => .yield serial
  | .done outcome duration => .done outcome duration

/-- The content of a frame lies in the ranges its fields can carry (R59 to R62, R76). -/
def Frame.inRange : Frame → Bool
  | .status c =>
    decide (c.state ≠ .start ∧ c.phase < 16 ∧ c.urgency ≤ 1000 ∧ c.flow ≤ 65535 ∧ c.runTime ≤ 65535
      ∧ 1 ≤ c.interval ∧ c.interval ≤ 10 ∧ c.bound ≤ 65535)
  | .claim c => decide (c.urgency ≤ 1000 ∧ c.runTime ≤ 65535 ∧ c.serial ≤ 255 ∧ c.bound ≤ 65535)
  | .yield serial => decide (serial ≤ 255)
  | .done _ duration => decide (duration ≤ 65535)

/-! ## Panel requests (R182) -/

/-- The code of a request kind (R182). -/
def ReqKind.code : ReqKind → Nat
  | .readStation => 1
  | .readPeer _ => 2
  | .readConfig => 3
  | .washNow => 4
  | .takeOut => 5
  | .returnFilter => 6
  | .abort => 7
  | .hold => 8
  | .resume => 9
  | .forget _ => 10
  | .restart => 11
  | .writeConfig _ => 12
  | .lockConfig => 13

/-- Bytes after the length character of the request a code names: none for codes 0, 14 and 15 (R182). -/
def requestLength : Nat → Option Nat
  | 1 | 3 | 4 | 5 | 6 | 7 | 8 | 9 | 11 | 13 => some 0
  | 2 | 10 => some 1
  | 12 => some 96
  | _ => none

/-- The request that a code and its bytes form (R182). -/
def requestOf (code : Nat) (args : List Byte) : Option ReqKind :=
  match code, args with
  | 1, [] => some .readStation
  | 2, [n] => some (.readPeer n)
  | 3, [] => some .readConfig
  | 4, [] => some .washNow
  | 5, [] => some .takeOut
  | 6, [] => some .returnFilter
  | 7, [] => some .abort
  | 8, [] => some .hold
  | 9, [] => some .resume
  | 10, [n] => some (.forget n)
  | 11, [] => some .restart
  | 12, record => if record.length = 96 then some (.writeConfig record) else none
  | 13, [] => some .lockConfig
  | _, _ => none

/-- The bytes a request carries after its length character. -/
def ReqKind.args : ReqKind → List Byte
  | .readPeer n | .forget n => [n]
  | .writeConfig record => record
  | .readStation | .readConfig | .washNow | .takeOut | .returnFilter | .abort | .hold | .resume | .restart
  | .lockConfig => []

/-- The lead character of a request, which its answer repeats (R182). -/
def Request.lead (r : Request) : Byte := BitVec.ofNat 8 (r.kind.code * 16 + r.tag.toNat)

/-- The bytes of a whole request (R172, R182). -/
def Request.bytes (r : Request) : List Byte :=
  withCheck ([r.lead, BitVec.ofNat 8 r.kind.args.length] ++ r.kind.args)

/-- Reading a complete request: the check must match (R173). -/
def readRequest (bytes : List Byte) : Option Request :=
  match bytes with
  | lead :: len :: rest =>
    if rest.length = len.toNat + 2
        ∧ rest.drop len.toNat = crcBytes (lead :: len :: rest.take len.toNat) then
      match requestOf (highNibble lead) (rest.take len.toNat) with
      | some k => some ⟨k, BitVec.ofNat 4 (lowNibble lead)⟩
      | none => none
    else none
  | _ => none

/-! ## Answers (R176, R182) -/

/-- Why a request is refused, with the code of R182. -/
inductive Refuse where
  | state
  | locked
  | range
  | busy
  | fault
  deriving DecidableEq, Repr

/-- The content of an answer (R176). -/
inductive Reply where
  | ok (data : List Byte)
  | accepted
  | acceptedDeferred
  | refused (why : Refuse)
  deriving DecidableEq, Repr

/-- The reason byte (R182). -/
def Refuse.code : Refuse → Byte
  | .state => 1
  | .locked => 2
  | .range => 3
  | .busy => 4
  | .fault => 5

/-- The bytes after the length character: the answer code, then the reason or the data (R182). -/
def Reply.content : Reply → List Byte
  | .ok data => 0 :: data
  | .accepted => [1]
  | .acceptedDeferred => [2]
  | .refused why => [3, why.code]

/-- The formed answer to a request, none of its characters sent. -/
def Reply.toAnswer (r : Request) (a : Reply) : Answer := ⟨r.lead, a.content, 0⟩

/-- The bytes of a whole answer on the line (R172). -/
def Answer.bytes (a : Answer) : List Byte :=
  withCheck ([a.lead, BitVec.ofNat 8 a.content.length] ++ a.content)

/-! ## Values in answers (R183) -/

/-- A value of an answer in `w` bytes; all ones stands for absence. -/
def optBytes (w : Nat) : Option Nat → List Byte
  | some n => natBytes w n
  | none => List.replicate w 0xFF

/-- A flag: one byte, 1 set and 0 clear. -/
def flagByte (b : Bool) : List Byte := natBytes 1 b.toNat

/-- A flag that may be absent. -/
def optFlagByte : Option Bool → List Byte
  | some b => flagByte b
  | none => [0xFF]

/-- The flags word: 00 and its 16-bit form, or FFFFFF when absent. -/
def optFlagsWord : Option Word16 → List Byte
  | some w => natBytes 3 w.toNat
  | none => List.replicate 3 0xFF

/-- Place of a channel status in its list, from 0 (R183, R1). -/
def channelStatusPlace : ChannelStatus → Nat
  | .notReady => 0
  | .valid => 1
  | .fault => 2

/-- Place of a presence (R75). -/
def presencePlace : Presence → Nat
  | .fresh => 0
  | .stale => 1
  | .absent => 2

/-- Place of a sub-step (R112). -/
def subStepPlace : SubStep → Nat
  | .closing => 0
  | .opening => 1
  | .running => 2

/-- Place of a state of the rinse water (R112). -/
def rinseWaterPlace : RinseWater → Nat
  | .flowing => 0
  | .suspended => 1
  | .resuming => 2

/-- Place of an abort cause (R112). -/
def abortCausePlace : AbortCause → Nat
  | .operator => 0
  | .fault => 1

/-- Place of a ripening step (R134). -/
def ripeningStepPlace : RipeningStep → Nat
  | .idle => 0
  | .closing => 1
  | .opening => 2
  | .running => 3
  | .ending => 4

/-- Place of a basis (R134). -/
def basisPlace : Basis → Nat
  | .verified => 0
  | .onTime => 1

/-- Place of a position state (R144). -/
def posPlace : PosState → Nat
  | .unknown => 0
  | .closed => 1
  | .opening => 2
  | .opened => 3
  | .closing => 4
  | .fault => 5

/-- Place of a commanded target (R144: "Open, closed, or absent"). -/
def valveEndPlace : ValveEnd → Nat
  | .openEnd => 0
  | .closedEnd => 1

/-- Place of a fault kind (R144). -/
def faultKindPlace : FaultKind → Nat
  | .stuck => 0
  | .feedback => 1
  | .drift => 2

/-- Place of a blower mode (R154). -/
def blowerModePlace : BlowerMode → Nat
  | .stopped => 0
  | .pulsed => 1
  | .continuous => 2
  | .pulseEnded => 3

/-- Place of a stage (R158). -/
def stagePlace : Stage → Nat
  | .safe => 0
  | .load => 1
  | .configFault => 2
  | .inputs => 3
  | .survey => 4
  | .listen => 5
  | .release => 6
  | .recovery => 7
  | .running => 8

end Sys2Proof.Machine
end

