-- ==== Sys2Proof/Machine/Ops.lean ====
section
/-! DEFINITION. The named operations over the configuration memory and over the records of the state: reading and
writing one byte, one channel, one valve, one pin; the configuration in force; the sequencer record with its bound. -/

namespace Sys2Proof.Machine

/-! ## Configuration memory (R184) -/

/-- The byte at an address: the listed one, or the factory content (R185). -/
def Memory.read : Memory → Nat → Byte
  | [], a => Memory.factory a
  | (k, v) :: rest, a => if k = a then v else Memory.read rest a

/-- The cell to list for a byte at an address: none where it is the factory content. -/
def Memory.cell (a : Nat) (b : Byte) : List Host.Cell := if b = Memory.factory a then [] else [(a, b)]

/-- Writing one byte, keeping the canonical form. -/
def Memory.write : Memory → Nat → Byte → Memory
  | [], a, b => Memory.cell a b
  | (k, v) :: rest, a, b =>
    if a < k then Memory.cell a b ++ (k, v) :: rest
    else if a = k then Memory.cell a b ++ rest
    else (k, v) :: Memory.write rest a b

/-- Writing bytes at consecutive addresses. -/
def Memory.writeList : Memory → Nat → List Byte → Memory
  | m, _, [] => m
  | m, a, b :: bs => Memory.writeList (m.write a b) (a + 1) bs

/-- Reading bytes at consecutive addresses. -/
def Memory.readList (m : Memory) : Nat → Nat → List Byte
  | _, 0 => []
  | a, n + 1 => m.read a :: Memory.readList m (a + 1) n

/-- The canonical form: addresses rising, no byte equal to the factory content. -/
abbrev Memory.wf (m : Memory) : Prop :=
  m.Pairwise (fun x y => x.1 < y.1) ∧ ∀ c ∈ m, c.2 ≠ Memory.factory c.1

/-- Field `i` of the record: "field i at bytes 2 × (i − 1) and 2 × (i − 1) + 1", unsigned (R184, R185). -/
def Memory.field (m : Memory) (i : Nat) : Nat := bytesNat [m.read (2 * (i - 1)), m.read (2 * (i - 1) + 1)]

/-- The 96 record bytes (R184). -/
def Memory.record (m : Memory) : List Byte := m.readList 0 96

/-- The two stored CRC bytes (R184). -/
def Memory.storedCrc (m : Memory) : List Byte := m.readList 96 2

/-- The stored CRC equals the CRC over bytes 0..95 (R161). -/
def Memory.crcMatches (m : Memory) : Bool := m.storedCrc == crcBytes m.record

/-- The lock byte reads LOCKED: any value but the unlocked code (R161, R185). -/
def Memory.lockReads (m : Memory) : Bool := m.read 127 != Config.unlockedCode

/-! ## The configuration in force -/

/-- A configuration from its 43 fields by index (R162). -/
def Params.ofFields (f : Nat → Nat) : Params where
  nG := f 1
  w := f 2
  s := f 3
  area := f 4
  rMax := f 5
  hT := f 6
  tMax := f 7
  tMin := f 8
  qThr := f 9
  uT := f 10
  uHard := f 11
  uRipen := f 12
  lo0 := f 13
  hi0 := f 14
  lo1 := f 15
  hi1 := f 16
  lo2 := f 17
  hi2 := f 18
  lo3 := f 19
  hi3 := f 20
  lo4 := f 21
  hi4 := f 22
  lLow := f 23
  lHigh := f 24
  lStart := f 25
  lFloor := f 26
  lResume := f 27
  tLower := f 28
  tAir := f 29
  tOn := f 30
  tOff := f 31
  tAw := f 32
  tRinse := f 33
  tSusp := f 34
  tRefill := f 35
  tRhold := f 36
  tRmax := f 37
  trInf := f 38
  trEff := f 39
  trDrn := f 40
  trWw := f 41
  trAir := f 42
  trFtw := f 43

/-- The configuration in force: the working copy. DESIGN CHOICE (entry 14), safe: all zeros where there is none; no
command that needs a parameter acts before LOAD has formed the working copy. -/
def State.cfg (s : State) : Params := (s.startup.working.map WorkingCopy.params).getD (Params.ofFields fun _ => 0)

/-- The station's own number (R161). -/
def State.ownNumber (s : State) : Nat := s.startup.number.getD 0

/-- The lower scale end of a channel (R162). -/
def Params.lo (p : Params) : Channel → Nat
  | .ch0 => p.lo0
  | .ch1 => p.lo1
  | .ch2 => p.lo2
  | .ch3 => p.lo3
  | .ch4 => p.lo4

/-- The upper scale end of a channel (R162). -/
def Params.hi (p : Params) : Channel → Nat
  | .ch0 => p.hi0
  | .ch1 => p.hi1
  | .ch2 => p.hi2
  | .ch3 => p.hi3
  | .ch4 => p.hi4

/-- The travel time allowed a valve (R162). -/
def Params.travel (p : Params) : Valve → Nat
  | .inf => p.trInf
  | .eff => p.trEff
  | .drn => p.trDrn
  | .ww => p.trWw
  | .air => p.trAir
  | .ftw => p.trFtw

/-- T_travel_max, the largest of the six travel times (00_scope.md). -/
def Params.travelMax (p : Params) : Nat :=
  max p.trInf (max p.trEff (max p.trDrn (max p.trWw (max p.trAir p.trFtw))))

/-! ## Stages -/

/-- Scanning runs from INPUTS on (R2, R17). -/
def State.scanning (s : State) : Bool :=
  match s.startup.stage with
  | .safe | .load | .configFault => false
  | .inputs | .survey | .listen | .release | .recovery | .running => true

/-- From SURVEY on the switches are watched (R149). -/
def State.surveyed (s : State) : Bool :=
  match s.startup.stage with
  | .safe | .load | .configFault | .inputs => false
  | .survey | .listen | .release | .recovery | .running => true

/-- From RELEASE on coil drive is enabled and the drive second occurs (R145, R147). -/
def State.released (s : State) : Bool :=
  match s.startup.stage with
  | .safe | .load | .configFault | .inputs | .survey | .listen => false
  | .release | .recovery | .running => true

/-- From LISTEN on the table second occurs (R82). -/
def State.listening (s : State) : Bool :=
  match s.startup.stage with
  | .safe | .load | .configFault | .inputs | .survey => false
  | .listen | .release | .recovery | .running => true

/-! ## Channels -/

/-- The five channels in order. -/
def allChannels : List Channel := [.ch0, .ch1, .ch2, .ch3, .ch4]

/-- The record of a channel. -/
def Measurement.get (m : Measurement) : Channel → ChannelRec
  | .ch0 => m.ch0
  | .ch1 => m.ch1
  | .ch2 => m.ch2
  | .ch3 => m.ch3
  | .ch4 => m.ch4

/-- Replacing the record of a channel. -/
def Measurement.put (m : Measurement) (ch : Channel) (r : ChannelRec) : Measurement :=
  match ch with
  | .ch0 => { m with ch0 := r }
  | .ch1 => { m with ch1 := r }
  | .ch2 => { m with ch2 := r }
  | .ch3 => { m with ch3 := r }
  | .ch4 => { m with ch4 := r }

/-- The channel-fault flag brought up to date (R10). -/
def Measurement.withFlag (m : Measurement) : Measurement := { m with channelFault := m.anyFault }

/-- Setting a channel's record, with the channel-fault flag (R10). -/
def State.setChannel (ch : Channel) (r : ChannelRec) (s : State) : State :=
  { s with meas := (s.meas.put ch r).withFlag }

/-! ## Valves, switches, blower -/

/-- The six valves in order. -/
def allValves : List Valve := [.inf, .eff, .drn, .ww, .air, .ftw]

/-- The record of a valve. -/
def Drive.get (d : Drive) : Valve → ValveRec
  | .inf => d.inf
  | .eff => d.eff
  | .drn => d.drn
  | .ww => d.ww
  | .air => d.air
  | .ftw => d.ftw

/-- Replacing the record of a valve. -/
def Drive.put (d : Drive) (v : Valve) (r : ValveRec) : Drive :=
  match v with
  | .inf => { d with inf := r }
  | .eff => { d with eff := r }
  | .drn => { d with drn := r }
  | .ww => { d with ww := r }
  | .air => { d with air := r }
  | .ftw => { d with ftw := r }

/-- The valve-fault flag brought up to date (R144), and the blower output off while AIR is not OPEN (R154). -/
def Drive.interlocked (d : Drive) : Drive :=
  { d with
    valveFault := d.anyFault
    blower := { d.blower with output := d.blower.output && d.air.pos == .opened } }

/-- The record of a valve. -/
def State.valve (s : State) (v : Valve) : ValveRec := s.drive.get v

/-- Setting a valve's record, with the valve-fault flag (R144) and the AIR interlock of the blower (R154). -/
def State.setValve (v : Valve) (r : ValveRec) (s : State) : State :=
  { s with drive := (s.drive.put v r).interlocked }

/-- The levels of a valve's switches. -/
def Pins.get (p : Pins) : Valve → Switches
  | .inf => p.inf
  | .eff => p.eff
  | .drn => p.drn
  | .ww => p.ww
  | .air => p.air
  | .ftw => p.ftw

/-- Replacing the levels of a valve's switches. -/
def Pins.put (p : Pins) (v : Valve) (w : Switches) : Pins :=
  match v with
  | .inf => { p with inf := w }
  | .eff => { p with eff := w }
  | .drn => { p with drn := w }
  | .ww => { p with ww := w }
  | .air => { p with air := w }
  | .ftw => { p with ftw := w }

/-- The levels of a valve's switches. -/
def State.switches (s : State) (v : Valve) : Switches := s.pins.get v

/-- Setting the levels of a valve's switches. -/
def State.setSwitches (v : Valve) (w : Switches) (s : State) : State := { s with pins := s.pins.put v w }

/-- The level of one switch. -/
def Switches.at (w : Switches) : ValveEnd → Bool
  | .openEnd => w.openMade
  | .closedEnd => w.closedMade

/-- One switch at a level, the other as it was. -/
def Switches.with (w : Switches) (e : ValveEnd) (made : Bool) : Switches :=
  match e with
  | .openEnd => { w with openMade := made }
  | .closedEnd => { w with closedMade := made }

/-- The other end of travel. -/
def ValveEnd.other : ValveEnd → ValveEnd
  | .openEnd => .closedEnd
  | .closedEnd => .openEnd

/-- The position state of a valve at rest at an end (R145). -/
def ValveEnd.atRest : ValveEnd → PosState
  | .openEnd => .opened
  | .closedEnd => .closed

/-- The position state of a valve on its way to an end (R145). -/
def ValveEnd.moving : ValveEnd → PosState
  | .openEnd => .opening
  | .closedEnd => .closing

/-- The end at which a valve rests. -/
def PosState.restEnd : PosState → Option ValveEnd
  | .opened => some .openEnd
  | .closed => some .closedEnd
  | .unknown | .opening | .closing | .fault => none

/-- The end toward which a valve is moving. -/
def PosState.movingTo : PosState → Option ValveEnd
  | .opening => some .openEnd
  | .closing => some .closedEnd
  | .unknown | .opened | .closed | .fault => none

/-- The position state that the switches show (R152). -/
def Switches.position (w : Switches) : PosState :=
  if w.closedMade && w.openMade then .fault
  else if w.closedMade then .closed
  else if w.openMade then .opened
  else .unknown

/-- The open coil is energized (R145). -/
def ValveRec.openCoil (r : ValveRec) : Bool := r.pos == .opening && r.drive == .energized

/-- The close coil is energized (R145). -/
def ValveRec.closeCoil (r : ValveRec) : Bool := r.pos == .closing && r.drive == .energized

/-- Setting the blower record. -/
def State.setBlower (b : BlowerRec) (s : State) : State := { s with drive := { s.drive with blower := b } }

/-- Setting the second in which AIR's end turned the blower output off (entry 17). -/
def State.setAirEndStop (x : Option Nat) (s : State) : State := { s with drive := { s.drive with airEndStop := x } }

/-! ## Limit conditions (R14): false where the value is absent -/

/-- Bed low: CH2 ≤ L_low. -/
def State.bedLow (s : State) : Bool := s.meas.ch2.filtered.any (· ≤ s.cfg.lLow)
/-- Bed high: CH2 ≥ L_high. -/
def State.bedHigh (s : State) : Bool := s.meas.ch2.filtered.any (s.cfg.lHigh ≤ ·)
/-- Tank below floor: CH4 < L_floor. -/
def State.tankBelowFloor (s : State) : Bool := s.meas.ch4.filtered.any (· < s.cfg.lFloor)
/-- Tank at resume: CH4 ≥ L_resume. -/
def State.tankAtResume (s : State) : Bool := s.meas.ch4.filtered.any (s.cfg.lResume ≤ ·)
/-- Tank at start: CH4 ≥ L_start. -/
def State.tankAtStart (s : State) : Bool := s.meas.ch4.filtered.any (s.cfg.lStart ≤ ·)
/-- Turbidity at hard limit: the CH1 decision value ≥ U_hard. -/
def State.turbidityHard (s : State) : Bool := s.meas.decision.any (s.cfg.uHard ≤ ·)
/-- Turbidity ripened: the CH1 decision value ≤ U_ripen. -/
def State.turbidityRipened (s : State) : Bool := s.meas.decision.any (· ≤ s.cfg.uRipen)

/-! ## The sequencer record with its bound (R126, R127) -/

/-- The quotient rounded up. -/
def ceilDiv (a b : Nat) : Nat := (a + b - 1) / b

/-- The maximum time of AIR (R118). -/
def Params.airMax (p : Params) : Nat := ceilDiv (p.tAir * (p.tOn + p.tOff)) p.tOn + 10

/-- The maximum time of a phase (R113); AIR_WATER counts 0 when T_aw is 0. -/
def Params.phaseMax (p : Params) : Activity → Nat
  | .lower => p.tLower
  | .air => p.airMax
  | .airWater => p.tAw
  | .rinse => p.tRinse + p.tSusp
  | .refill => p.tRefill
  | .idle | .abortPath => 0

/-- The phases after a phase, in the order of R113. -/
def Activity.later : Activity → List Activity
  | .lower => [.air, .airWater, .rinse, .refill]
  | .air => [.airWater, .rinse, .refill]
  | .airWater => [.rinse, .refill]
  | .rinse => [.refill]
  | .refill | .idle | .abortPath => []

/-- A phase has an entry: AIR_WATER has none when it is skipped (R126). -/
def Params.hasEntry (p : Params) (a : Activity) : Bool := a != .airWater || 0 < p.tAw

/-- The longest a phase entry takes (R126). -/
def Params.entryMax (p : Params) : Nat := 2 * (p.travelMax + 1)

/-- The maximum times and entries of phases not yet begun. -/
def Params.laterBound (p : Params) (l : List Activity) : Nat :=
  (l.map p.phaseMax).sum + p.entryMax * (l.filter p.hasEntry).length

/-- The full wash bound (R127). -/
def Params.fullBound (p : Params) : Nat :=
  p.laterBound [.lower, .air, .airWater, .rinse, .refill]

/-- The remaining-wash bound of a sequencer record (R126), outside CLAIMING. -/
def Params.washBound (p : Params) (q : Sequencer) : Nat :=
  match q.activity with
  | .idle => 0
  | .abortPath => p.travelMax + 1
  | .lower | .air | .airWater | .rinse | .refill =>
    min Config.max16
      ((if q.subStep = some .running then p.phaseMax q.activity - q.phaseElapsed
        else p.phaseMax q.activity + p.entryMax)
        + p.laterBound q.activity.later)

/-- Setting the sequencer record, its bound recomputed (R126). -/
def State.setSeq (q : Sequencer) (s : State) : State := { s with seq := { q with bound := s.cfg.washBound q } }

/-- The remaining-wash bound as it is announced: in CLAIMING the remaining settle time plus the full wash bound, else
the record's (R59, R126, R127). -/
def State.boundNow (s : State) : Nat :=
  match s.rot.service with
  | .claiming => min Config.max16 (s.rot.settleDeadline.getD s.now - s.now + s.seq.fullBound)
  | .washing => s.seq.bound
  | .start | .filtering | .queued | .ripening | .standby | .isolated => 0

end Sys2Proof.Machine
end

