-- ==== Sys2Proof/Machine/Condition.lean ====
section
/-! DEFINITION. The condition unit: run time (R20), the baseline (R22), the components and urgency (R24 to R28), and
what each condition second finds (R29 to R33). -/

namespace Sys2Proof.Machine

/-- FILTERING, QUEUED or CLAIMING: the states in which run time may count and urgency is computed (R20, R27). -/
def ServiceState.delivering : ServiceState → Bool
  | .filtering | .queued | .claiming => true
  | .start | .washing | .ripening | .standby | .isolated => false

/-- WASHING, RIPENING, STANDBY or ISOLATED: the states with urgency 0 (R27). -/
def ServiceState.outOfRun : ServiceState → Bool
  | .washing | .ripening | .standby | .isolated => true
  | .start | .filtering | .queued | .claiming => false

/-- The head-loss component (R24). -/
def headLossComponent (h : Option Nat) (h0 hT : Nat) : Nat :=
  match h with
  | some h => if h ≤ h0 then 0 else min 1000 (1000 * (h - h0) / (hT - h0))
  | none => 0

/-- The run-time component (R25). -/
def runTimeComponent (t tMax : Nat) : Nat :=
  if 4 * t ≤ 3 * tMax then 0 else min 1000 (1000 * (4 * t - 3 * tMax) / tMax)

/-- The turbidity component (R26). -/
def turbidityComponent (u : Option Nat) (uT : Nat) : Nat :=
  match u with
  | some u => min 1000 (1000 * u / uT)
  | none => 0

/-- The baseline captured from CH0: capped at H_t − 20, 0 where CH0 has no value (R22, R23). -/
def capturedBaseline (h : Option Nat) (hT : Nat) : Nat :=
  match h with
  | some h => min h (hT - 20)
  | none => 0

/-- The three components computed from the values that stand (R24 to R26). -/
def State.computeComponents (s : State) : State :=
  { s with
    cond := { s.cond with
      cH := headLossComponent s.meas.ch0.filtered s.cond.baseline s.cfg.hT
      cT := runTimeComponent s.cond.runTime s.cfg.tMax
      cU := turbidityComponent s.meas.decision s.cfg.uT } }

/-- The three components at 0 (R27, R28). -/
def State.zeroComponents (s : State) : State := { s with cond := { s.cond with cH := 0, cT := 0, cU := 0 } }

/-- Urgency by the table of R27: 1000 while held or manual stands in a delivering state, else the largest component;
0 in the other states. -/
def State.urgencyValue (s : State) : Nat :=
  if s.rot.service.delivering then
    if s.rot.held || s.rot.manual then 1000 else max s.cond.cH (max s.cond.cT s.cond.cU)
  else 0

/-- Urgency brought up to date from the components as they stand (R28). -/
def State.updateUrgency (s : State) : State := { s with cond := { s.cond with urgency := s.urgencyValue } }

/-- Components and urgency at a change of service state from `old` to the state that now stands (R28). -/
def State.urgencyOnEntry (old : ServiceState) (s : State) : State :=
  if s.rot.service.outOfRun then s.zeroComponents.updateUrgency
  else if old.outOfRun || (old == .start && s.rot.service == .filtering) then s.computeComponents.updateUrgency
  else s.updateUrgency

/-- Run time and baseline at ripening end, with the closed window (R21, R22, R29). -/
def State.beginRun (s : State) : State :=
  { s with
    cond := { s.cond with
      runTime := 0
      runSeconds := 0
      rtEstimated := false
      baseline := capturedBaseline s.meas.ch0.filtered s.cfg.hT
      closedWindow := decide (0 < s.cfg.tMin) } }

/-- Run time and baseline at a RELEASE into FILTERING (R21, R23, R29). -/
def State.resumeRun (s : State) : State :=
  { s with
    cond := { s.cond with
      runTime := s.cfg.tMin
      runSeconds := 0
      rtEstimated := true
      baseline := capturedBaseline s.meas.ch0.filtered s.cfg.hT
      closedWindow := false } }

/-! ## The condition second (R19) -/

/-- Step 1: run time advances in a delivering state with EFF commanded open (R20). -/
def State.advanceRunTime (s : State) : State :=
  if s.rot.service.delivering && s.inService then
    if s.cond.runSeconds + 1 = 60 then
      { s with cond := { s.cond with runSeconds := 0, runTime := min Config.max16 (s.cond.runTime + 1) } }
    else { s with cond := { s.cond with runSeconds := s.cond.runSeconds + 1 } }
  else s

/-- Step 2 ends the closed window (R29). -/
def State.windowEnds (s : State) : Bool := s.cond.closedWindow && s.cfg.tMin ≤ s.cond.runTime

/-- Step 2: the closed window ends when run time is at or above T_min (R29). -/
def State.endWindow (s : State) : State :=
  if s.windowEnds then { s with cond := { s.cond with closedWindow := false } } else s

/-- Step 3: the components and urgency by the table of R27; while held is set the components keep their values. -/
def State.conditionCompute (s : State) : State :=
  if s.rot.service.delivering then
    if s.rot.held then s.updateUrgency else s.computeComponents.updateUrgency
  else s.zeroComponents.updateUrgency

/-- Hard breakthrough holds: CH1 VALID and turbidity at hard limit (R31). -/
def State.breakthroughSeen (s : State) : Bool := s.meas.ch1.status == .valid && s.turbidityHard

/-- The short-run test (R33). -/
def State.shortRunSeen (s : State) : Bool :=
  s.cfg.qThr ≤ s.cond.cH || s.cfg.qThr ≤ s.cond.cU || s.breakthroughSeen

/-- The trigger that step 4 finds, by the table of tested conditions before R30. -/
def State.triggerFound (s : State) : Option Trigger :=
  match s.rot.service with
  | .filtering =>
    if s.cond.closedWindow then if s.shortRunSeen then some .shortRun else none
    else if !s.rot.held && s.breakthroughSeen then some .hardBreakthrough
    else if s.cfg.qThr ≤ s.cond.urgency then some .queueTrigger
    else none
  | .queued | .claiming =>
    if !s.cond.closedWindow && !s.rot.held && s.breakthroughSeen then some .hardBreakthrough else none
  | .start | .washing | .ripening | .standby | .isolated => none

/-- The service states that a trigger names (R34). -/
def Trigger.names : Trigger → ServiceState → Bool
  | .queueTrigger, x | .shortRun, x => x == .filtering
  | .hardBreakthrough, x => x == .filtering || x == .queued || x == .claiming

/-- Delivering a trigger to the rotation controller: it waits to be taken, carrying the service state in which it was
found; a short run sets the short-run flag at once (R33, R34). DESIGN CHOICE (entry 4): an event equal to one that waits
is not put there twice. -/
def State.deliver (k : Trigger) (s : State) : State :=
  let d : Delivery := ⟨k, s.rot.service⟩
  let u := if s.delivered.contains d then s else { s with delivered := s.delivered ++ [d] }
  if k = .shortRun then { u with cond := { u.cond with shortRun := true } } else u

/-- Step 4: the trigger found is delivered. -/
def State.conditionTriggers (s : State) : State :=
  match s.triggerFound with
  | some k => s.deliver k
  | none => s

/-- The four steps of a condition second, in order (R19). -/
def State.conditionSteps (s : State) : State := s.advanceRunTime.endWindow.conditionCompute.conditionTriggers

/-- The oldest delivered event of a trigger leaves those that wait. -/
def State.undeliver (k : Trigger) (s : State) : State :=
  { s with delivered := s.delivered.eraseP (fun d => d.trigger == k) }

/-- The delivered events that still stand as the service state becomes `new`: one that does not name it is dropped, the
station having left the states it names (R34). -/
def State.stillDelivered (new : ServiceState) (s : State) : List Delivery :=
  s.delivered.filter (fun d => d.trigger.names new)

/-- The command by which a delivered trigger is taken. -/
def Trigger.command : Trigger → Instr
  | .queueTrigger => .queueTrigger
  | .hardBreakthrough => .hardBreakthrough
  | .shortRun => .shortRun

end Sys2Proof.Machine
end

