-- ==== Sys2Proof/Machine/Measurement.lean ====
section
/-! DEFINITION. The measurement unit: the taking of a sample (R3 to R8), turbidity settling and the decision value
(R11 to R13). -/

namespace Sys2Proof.Machine

/-- A code of a valid sample (R3). -/
def validCode (code : Nat) : Bool := Config.codeMin ≤ code && code ≤ Config.codeMax

/-- A valid code joins the window; the oldest leaves when it held 8 (R4). -/
def pushWindow (window : List Nat) (code : Nat) : List Nat :=
  (window ++ [code]).drop (window.length + 1 - Config.windowSize)

/-- The mean code of a window, clamped into 683..3413 (R5). -/
def clampedMean (window : List Nat) : Nat :=
  min Config.codeHi (max Config.codeLo (window.sum / Config.windowSize))

/-- The filtered value of a window on a scale lo..hi (R5). -/
def filteredValue (lo hi : Nat) (window : List Nat) : Nat :=
  lo + (clampedMean window - Config.codeLo) * (hi - lo) / (Config.codeHi - Config.codeLo)

/-- The run counts and the window after a sample, in every status (R3, R4). -/
def ChannelRec.count (r : ChannelRec) (code : Nat) : ChannelRec :=
  if validCode code then
    { r with
      validRun := min Config.validLimit (r.validRun + 1)
      invalidRun := 0
      window := pushWindow r.window code }
  else
    { r with validRun := 0, invalidRun := min Config.invalidLimit (r.invalidRun + 1) }

/-- The record becomes VALID with the filtered value of its window (R5). -/
def ChannelRec.compute (r : ChannelRec) (lo hi : Nat) : ChannelRec :=
  { r with status := .valid, filtered := some (filteredValue lo hi r.window) }

/-- A channel record takes a sample: the counts first, then the rule of the status (R3 to R8). -/
def ChannelRec.take (r : ChannelRec) (lo hi code : Nat) : ChannelRec :=
  let c := r.count code
  match r.status with
  | .notReady =>
    if validCode code then
      if c.window.length = Config.windowSize then c.compute lo hi else c
    else if c.invalidRun = Config.invalidLimit then { c with status := .fault } else c
  | .valid =>
    if validCode code then c.compute lo hi
    else if c.invalidRun = Config.invalidLimit then { c with status := .fault } else c
  | .fault =>
    if validCode code && c.validRun == Config.validLimit then c.compute lo hi else c

/-! ## The decision value of CH1 -/

/-- The three conditions of R11 under which the decision value follows the filtered value. START is no service state
(R37). -/
def State.decisionFollows (s : State) : Bool :=
  s.meas.settling.isNone && (s.drive.eff.pos == .opened || s.drive.ftw.pos == .opened)
    && (s.rot.service != .washing && s.rot.service != .start)

/-- The hold timer counts on this basis, in this step, with no settling running (R138). -/
def State.holdRuns (s : State) : Bool :=
  s.rip.step == .running && s.rip.basis == some .verified && s.meas.settling.isNone

/-- A new decision value, with what an event making turbidity ripened false does to the hold timer (R138). -/
def State.setDecision (d : Option Nat) (s : State) : State :=
  let t := { s with meas := { s.meas with decision := d } }
  if s.turbidityRipened && !t.turbidityRipened && t.holdRuns then { t with rip := { t.rip with hold := 0 } } else t

/-- The decision value takes the filtered value where R11's conditions hold, and keeps its value where one fails. -/
def State.followDecision (s : State) : State :=
  if s.decisionFollows then s.setDecision s.meas.ch1.filtered else s

/-- A completed opening of EFF or FTW starts or restarts settling; the decision value stops following (R12). -/
def State.startSettling (s : State) : State := { s with meas := { s.meas with settling := some 0 } }

end Sys2Proof.Machine
end

