-- ==== Sys2Proof/Machine/Link.lean ====
section
/-! DEFINITION. The link controller: forming a STATUS (R59), the transmit queue (R63 to R66), the access wait (R67),
and what a discarded frame's owner is told (R69, R99). -/

namespace Sys2Proof.Machine

/-- The frame is a STATUS. -/
def Frame.isStatus (f : Frame) : Bool := f.kind == .status

/-- The frame is a CLAIM. -/
def Frame.isClaim (f : Frame) : Bool := f.kind == .claim

/-- The own flow: the CH3 filtered value, held in FAULT, 0 while CH3 has none (R59). -/
def State.ownFlow (s : State) : Nat := s.meas.ch3.filtered.getD 0

/-- The content of a STATUS formed now (R59). -/
def State.statusContent (s : State) : StatusContent where
  state := s.rot.service
  phase := if s.rot.service = .washing then activityCode s.seq.activity else 0
  flags := s.flagsWord
  urgency := s.cond.urgency
  flow := s.ownFlow
  runTime := s.cond.runTime
  interval := s.cfg.s
  bound := s.boundNow

/-! ## The transmit queue -/

/-- The current transmission: the head of the queue once its first attempt has begun (R64). -/
def Link.started (l : Link) : List Frame := if l.attempt.isSome then l.queue.take 1 else []

/-- The unstarted frames, head first. -/
def Link.unstarted (l : Link) : List Frame := if l.attempt.isSome then l.queue.drop 1 else l.queue

/-- The station is driving the characters of an attempt: a frame is started and no wait runs between its attempts
(R68). -/
def Link.transmitting (l : Link) : Bool := l.attempt.isSome && l.accessWait.isNone

/-- The gap of a frame kind for a station number, in bit times (R67). -/
def accessGap (k : FrameKind) (own : Nat) : Nat := 24 + 2 * (k.cls * 16 + own)

/-- The access wait that runs when a frame has just become the head of this queue: from zero, and none for an empty
queue (R67). -/
def freshWait (q : List Frame) : Option Nat := if q.isEmpty then none else some 0

/-- The queue with an unstarted frame list in place of the old one: the wait starts again only where the head may have
changed, which is where no frame is started (R64, R67). -/
def Link.withUnstarted (l : Link) (q : List Frame) : Link := { l with queue := l.started ++ q }

/-- What R63 makes of an offered class 0 frame: the link with the frame placed, or none where it is discarded at
once. -/
def Link.place (l : Link) (f : Frame) : Option Link :=
  let class0 := l.unstarted.filter (fun g => !g.isStatus)
  let statuses := l.unstarted.filter Frame.isStatus
  let room := l.queue.length < Config.queueSize
  if l.dupAddress || (f.isClaim && l.queue.any Frame.isClaim) || (!room && statuses.isEmpty) then none
  else
    let l' := l.withUnstarted (class0 ++ [f] ++ if room then statuses else [])
    if l.attempt.isNone && class0.isEmpty then some { l' with accessWait := some 0, waitFromQuiet := false } else some l'

/-- Discarding an own CLAIM: the notice that ends it unsent (R99). -/
def State.claimDiscarded (serial : Nat) (s : State) : State :=
  if s.rot.outstanding = some serial then
    if s.rot.service = .queued ∧ s.rot.claimed.isSome then
      { s with rot := { s.rot with outstanding := none, claimed := none, lastRefusal := some .silent } }
    else { s with rot := { s.rot with outstanding := none } }
  else s

/-- The discarded notice of a frame (R69): the rotation controller takes a CLAIM's (R99); a YIELD's (R103) and a
DONE's (R131) change nothing, and a STATUS has none. -/
def State.discardNotice (f : Frame) (s : State) : State :=
  match f with
  | .claim c => s.claimDiscarded c.serial
  | .yield _ | .done _ _ | .status _ => s

/-- Offering a class 0 frame to the transmit queue (R63, R74). -/
def State.offer (f : Frame) (s : State) : State :=
  match s.link.place f with
  | some l => { s with link := l }
  | none => s.discardNotice f

/-- What R65 makes of a request to produce a STATUS, `f` being the STATUS formed now. -/
def Link.takeStatus (l : Link) (f : Frame) : Link :=
  if l.dupAddress then l
  else if l.unstarted.any Frame.isStatus then
    l.withUnstarted (l.unstarted.map (fun g => if g.isStatus then f else g))
  else if l.started.any Frame.isStatus then { l with statusDue := true }
  else if l.queue.length < Config.queueSize then
    { l with
      queue := l.queue ++ [f]
      accessWait := if l.queue.isEmpty then some 0 else l.accessWait
      waitFromQuiet := !l.queue.isEmpty && l.waitFromQuiet }
  else l

/-- A request to produce a STATUS (R65). -/
def State.requestStatus (s : State) : State := { s with link := s.link.takeStatus (.status s.statusContent) }

/-- The link with its unstarted CLAIM withdrawn, or none where no CLAIM waits unstarted (R66). -/
def Link.withdraw (l : Link) : Option Link :=
  if l.unstarted.any Frame.isClaim then
    let l' := l.withUnstarted (l.unstarted.filter (fun f => !f.isClaim))
    if l.attempt.isNone && l.queue.head?.any Frame.isClaim then
      some { l' with accessWait := freshWait l'.queue, waitFromQuiet := false }
    else some l'
  else none

/-- Asking the withdrawal of the outstanding CLAIM: an unstarted one ends, a started one runs on (R66, R98). -/
def State.withdrawClaim (s : State) : State :=
  match s.link.withdraw with
  | some l => { s with link := l, rot := { s.rot with outstanding := none, claimed := none } }
  | none => s

/-! ## Attempts (R67 to R69) -/

/-- The head frame leaves the queue and the next becomes the head (R69). -/
def Link.pop (l : Link) : Link :=
  { l with
    queue := l.queue.drop 1, attempt := none, accessWait := freshWait (l.queue.drop 1), echoed := 0
    waitFromQuiet := false }

/-- A STATUS that was due is formed once the started STATUS has left the queue (R65). -/
def State.formDue (wasStatus : Bool) (s : State) : State :=
  if wasStatus && s.link.statusDue then
    ({ s with link := { s.link with statusDue := false } }).requestStatus
  else s

/-- An attempt of the head frame begins, no character of it echoed: its count starts at 1 and is raised at each later
attempt (R67, R68). DEDUCED (entry 6): the line has been quiet for longer than the assembly timeout, so no partial
assembly stands. -/
def Link.begin (l : Link) : Link :=
  { l with
    attempt := some (l.attempt.getD 0 + 1), accessWait := none, assembly := none, echoed := 0, waitFromQuiet := false }

/-- An attempt is abandoned: the head frame stays started and its wait starts again from zero (R67, R68). -/
def Link.abandon (l : Link) : Link := { l with accessWait := some 0, echoed := 0, waitFromQuiet := false }

/-- A running wait has counted at least this many quiet bit times (R67). DESIGN CHOICE
(entry 2): quiet bit times are counted by the commands that say how long the line was quiet. -/
def Link.quietFor (bitTimes : Nat) (l : Link) : Link := { l with accessWait := l.accessWait.map (max bitTimes) }

/-- The line has been quiet for this many bit times since the last character: a wait that started as it went quiet has
counted at least these, one that started later keeps its count (R67). -/
def Link.quietSince (bitTimes : Nat) (l : Link) : Link := if l.waitFromQuiet then l.quietFor bitTimes else l

/-- When the count reaches the gap of the head frame for the own station number, an attempt begins (R67). -/
def Link.tryAttempt (own : Nat) (l : Link) : Link :=
  match l.queue, l.accessWait with
  | f :: _, some count => if accessGap f.kind own ≤ count then l.begin else l
  | _, _ => l

/-- The gap the access wait counts to: that of the head frame (R67). -/
def Link.gap (own : Nat) (l : Link) : Nat :=
  match l.queue with
  | f :: _ => accessGap f.kind own
  | [] => 0

/-- The wait starts again from zero for a head frame that is not being driven: the line has just gone quiet (R67; entry
6). -/
def Link.lineQuiet (l : Link) : Link :=
  if l.transmitting then l else { l with accessWait := freshWait l.queue, waitFromQuiet := !l.queue.isEmpty }

end Sys2Proof.Machine
end

