-- ==== Sys2Proof/Machine/Peers.lean ====
section
/-! DEFINITION. The peer table: recording frames (R76 to R81), aging and lapse (R82, R83), FORGET (R84), rank (R85) and
the quantities supplied to the rotation controller (R86 to R88). -/

namespace Sys2Proof.Machine

/-! ## The table -/

/-- The entry for a station number. -/
def findPeer (n : Nat) : List PeerEntry → Option PeerEntry
  | [] => none
  | e :: rest => if e.number = n then some e else findPeer n rest

/-- Putting an entry in its place: it replaces the entry of its number, or stands in rising order. -/
def putPeer (e : PeerEntry) : List PeerEntry → List PeerEntry
  | [] => [e]
  | x :: rest =>
    if e.number < x.number then e :: x :: rest
    else if e.number = x.number then e :: rest
    else x :: putPeer e rest

/-- Removing the entry of a number. -/
def dropPeer (n : Nat) (l : List PeerEntry) : List PeerEntry := l.filter (fun e => e.number != n)

/-- The entry for a station number. -/
def State.peer (s : State) (n : Nat) : Option PeerEntry := findPeer n s.peers

/-- Setting an entry. -/
def State.setPeer (e : PeerEntry) (s : State) : State := { s with peers := putPeer e s.peers }

/-! ## Recording a frame -/

/-- CLAIMING or WASHING: the states that occupy a wash slot (R75, R86). -/
def ServiceState.occupies : ServiceState → Bool
  | .claiming | .washing => true
  | .start | .filtering | .queued | .ripening | .standby | .isolated => false

/-- A new entry for a station, before its frame is recorded: fresh, heard now, optional fields absent (R77, R79). -/
def PeerEntry.fresh (n now : Nat) : PeerEntry :=
  ⟨n, .fresh, now, none, .queued, none, 0, 0, none, none, none⟩

/-- What a STATUS makes of an entry (R77, R78). -/
def PeerEntry.recordStatus (e : PeerEntry) (now : Nat) (c : StatusHeard) : PeerEntry :=
  { e with
    state := c.state
    flags := some c.flags
    urgency := c.urgency
    runTime := c.runTime
    flow := some c.flow
    senderS := some c.interval
    occupancyUntil := if c.state.occupies then some (now + c.bound) else none
    claim :=
      if c.state = .claiming then
        if e.state = .claiming ∧ e.claim.isSome then e.claim
        else some ⟨none, c.urgency, c.runTime, flagHeld c.flags, flagManual c.flags⟩
      else none }

/-- What a CLAIM makes of an entry (R79). -/
def PeerEntry.recordClaim (e : PeerEntry) (now : Nat) (c : ClaimContent) : PeerEntry :=
  { e with
    state := .claiming
    claim := some ⟨some c.serial, c.urgency, c.runTime, c.held, c.manual⟩
    urgency := c.urgency
    runTime := c.runTime
    occupancyUntil := some (now + c.bound) }

/-- A YIELD matches the entry's claim (R80). -/
def PeerEntry.yieldMatches (e : PeerEntry) (serial : Nat) : Bool :=
  e.state == .claiming && e.claim.any (fun c => c.serial == some serial || c.serial == none)

/-- What a YIELD makes of an entry (R80). -/
def PeerEntry.recordYield (e : PeerEntry) (serial : Nat) : PeerEntry :=
  if e.yieldMatches serial then { e with state := .queued, occupancyUntil := none, claim := none } else e

/-- What a DONE makes of an entry (R81). -/
def PeerEntry.recordDone (e : PeerEntry) (outcome : WashOutcome) : PeerEntry :=
  { e with
    state := if outcome = .complete then .ripening else .isolated
    occupancyUntil := none
    claim := none
    urgency := 0
    flow := some 0
    flags := e.flags.map clearInService }

/-- Hearing a station makes its entry fresh (R76). -/
def PeerEntry.hear (e : PeerEntry) (now : Nat) : PeerEntry := { e with lastHeard := now, presence := .fresh }

/-- The table after a frame whose fields lie in their ranges (R76 to R81). -/
def recordHeard (now n : Nat) (h : Heard) (l : List PeerEntry) : List PeerEntry :=
  match h, findPeer n l with
  | .status c, e => putPeer (((e.getD (.fresh n now)).hear now).recordStatus now c) l
  | .claim c, e => putPeer (((e.getD (.fresh n now)).hear now).recordClaim now c) l
  | .yield serial, some e => putPeer ((e.hear now).recordYield serial) l
  | .done outcome _, some e => putPeer ((e.hear now).recordDone outcome) l
  | .yield _, none => l
  | .done _ _, none => l

/-! ## Aging, lapse, FORGET -/

/-- The interval an entry ages on: the sender's S, or 10 s (R82). -/
def PeerEntry.interval (e : PeerEntry) : Nat := e.senderS.getD 10

/-- The presence of an entry after the table second at this time (R82). -/
def PeerEntry.aged (e : PeerEntry) (now : Nat) : Presence :=
  match e.presence with
  | .fresh => if 3 * e.interval < now - e.lastHeard then .stale else .fresh
  | .stale => if 10 * e.interval < now - e.lastHeard then .absent else .stale
  | .absent => .absent

/-- The entry's occupancy-until has passed (R83). -/
def PeerEntry.lapses (e : PeerEntry) (now : Nat) : Bool := e.occupancyUntil.any (· < now)

/-- FORGET n removes an ABSENT entry without occupancy; true where the request is accepted (R84). -/
def forgetAllowed : Option PeerEntry → Bool
  | none => true
  | some e => e.presence == .absent && e.occupancyUntil.isNone

/-! ## Rank (R85) -/

/-- The values a station is ranked by. -/
structure Rank where
  held : Bool
  urgency : Nat
  runTime : Nat
  number : Nat
  deriving DecidableEq, Repr

/-- The first outranks the second (R85). -/
def Rank.beats (a b : Rank) : Bool :=
  if a.held != b.held then a.held
  else if a.urgency ≠ b.urgency then decide (b.urgency < a.urgency)
  else if a.runTime ≠ b.runTime then decide (b.runTime < a.runTime)
  else decide (a.number < b.number)

/-- The own rank, in QUEUED and CLAIMING (R85). -/
def State.ownRank (s : State) : Option Rank :=
  match s.rot.service with
  | .queued => some ⟨s.rot.held, s.cond.urgency, s.cond.runTime, s.ownNumber⟩
  | .claiming =>
    match s.rot.claimed, s.rot.claimFlags with
    | some c, some f => some ⟨f.held, c.urgency, c.runTime, s.ownNumber⟩
    | _, _ => none
  | .start | .filtering | .washing | .ripening | .standby | .isolated => none

/-- The rank of an entry, in QUEUED and CLAIMING (R85). -/
def PeerEntry.rank (e : PeerEntry) : Option Rank :=
  match e.state with
  | .queued => some ⟨e.flags.any flagHeld, e.urgency, e.runTime, e.number⟩
  | .claiming => e.claim.map (fun c => ⟨c.held, c.urgency, c.runTime, e.number⟩)
  | .start | .filtering | .washing | .ripening | .standby | .isolated => none

/-- The entry's rank beats the own station's. -/
def State.outranks (s : State) (e : PeerEntry) : Bool :=
  match e.rank, s.ownRank with
  | some a, some b => a.beats b
  | _, _ => false

/-! ## Quantities (R86, R87) -/

/-- The entry is counted as occupying (R86). -/
def PeerEntry.occupying (e : PeerEntry) : Bool := e.state.occupies && e.occupancyUntil.isSome

/-- FRESH or STALE. -/
def PeerEntry.present (e : PeerEntry) : Bool := e.presence != .absent

/-- The entry's flags word is present with in-service set. -/
def PeerEntry.inService (e : PeerEntry) : Bool := e.flags.any flagInService

/-- Occupying peers (R86). -/
def State.occupyingPeers (s : State) : Nat := s.peers.countP PeerEntry.occupying

/-- Occupying washing peers (R86). -/
def State.washingPeers (s : State) : Nat := s.peers.countP (fun e => e.occupying && e.state == .washing)

/-- An occupying outranking claimant (R86). -/
def State.outrankingClaimant (s : State) (e : PeerEntry) : Bool :=
  e.occupying && e.state == .claiming && s.outranks e

/-- Occupying outranking claimants (R86). -/
def State.outrankingClaimants (s : State) : Nat := s.peers.countP s.outrankingClaimant

/-- Occupying outranking claimants in service (R86). -/
def State.outrankingInService (s : State) : Nat :=
  s.peers.countP (fun e => s.outrankingClaimant e && e.inService)

/-- Ahead peers (R86); 0 where the own station has no rank (R89). -/
def State.aheadPeers (s : State) : Nat :=
  s.peers.countP (fun e => e.presence == .fresh && e.state == .queued && s.outranks e)

/-- Ahead-occupying (R101). -/
def State.aheadOccupying (s : State) : Nat := s.washingPeers + s.outrankingClaimants

/-- N_on (R87). -/
def State.nOn (s : State) : Nat := s.inService.toNat + s.peers.countP (fun e => e.present && e.inService)

/-- ΣF (R87): of an entry in every presence, its flow counts while its flags word has in-service set. -/
def State.sumFlow (s : State) : Nat :=
  (if s.inService then s.ownFlow else 0)
    + (s.peers.map (fun e => if e.inService then e.flow.getD 0 else 0)).sum

/-- The peer part of the effective hold (R88). -/
def State.peerHold (s : State) : Bool := s.peers.any (fun e => e.present && e.flags.any flagHoldAsserted)

/-- The effective hold (R53). -/
def State.effectiveHold (s : State) : Bool := s.rot.holdAsserted || s.peerHold

end Sys2Proof.Machine
end

