-- ==== Sys2Proof/Machine/Admission.lean ====
section
/-! DEFINITION. The rotation controller's change of service state (R28, R39, R54, R107), admission (R91 to R96), claims
(R97 to R100), yields (R101, R102) and what a duplicate address does (R73, R110). -/

namespace Sys2Proof.Machine

/-! ## Change of service state -/

/-- The oversub flag brought up to date (R107). -/
def State.refreshOversub (s : State) : State :=
  { s with rot := { s.rot with oversub := s.rot.service.occupies && decide (s.cfg.w < s.occupyingPeers + 1) } }

/-- The service state changes, with what follows in the same moment: manual cleared on leaving the run (R39), the
delivered triggers whose states are left dropped (R34), oversub (R107), the decision value (R11), urgency (R28). DESIGN
CHOICE (entry 16): the decision value before urgency. -/
def State.enterState (new : ServiceState) (s : State) : State :=
  (({ s with
      rot := { s.rot with service := new, manual := s.rot.manual && !new.outOfRun }
      delivered := s.stillDelivered new }).refreshOversub |>.followDecision).urgencyOnEntry s.rot.service

/-- A change of service state is reported to the link controller, which produces a STATUS (R54). -/
def State.changeState (new : ServiceState) (s : State) : State := (s.enterState new).requestStatus

/-! ## Admission (R92 to R95) -/

/-- The filters left to carry the flow when k leave (R94). -/
def State.remaining (s : State) (k : Nat) : Nat := s.nOn - k

/-- The rate test (R94). -/
def State.ratePasses (s : State) (k : Nat) : Bool :=
  if 0 < s.remaining k then decide (s.sumFlow * 36 ≤ s.cfg.rMax * s.cfg.area * s.remaining k)
  else if 1 ≤ k then false
  else s.sumFlow == 0

/-- The predicted rate (R94). -/
def State.predicted (s : State) (k : Nat) : Option Nat :=
  if 0 < s.remaining k then some (min 9999 (s.sumFlow * 36 / (s.cfg.area * s.remaining k))) else none

/-- The supply test (R95). -/
def State.supplyPasses (s : State) : Bool :=
  if s.meas.ch4.status = .fault then s.rot.manual else s.tankAtStart

/-- k at an admission evaluation (R94). -/
def State.admissionK (s : State) : Nat := s.inService.toNat

/-- The first condition of R92 that fails, or none where admission holds. -/
def State.admissionFailure (s : State) : Option Reason :=
  if s.effectiveHold then some .hold
  else if s.link.dupAddress then some .silent
  else if s.cfg.w ≤ s.occupyingPeers + s.aheadPeers then some .slots
  else if !s.ratePasses s.admissionK then some .rate
  else if !s.supplyPasses then some .supply
  else none

/-- The CLAIM that stands for the own claim as it is formed now (R97). -/
def State.claimContent (s : State) : ClaimContent where
  urgency := s.cond.urgency
  runTime := s.cond.runTime
  held := s.rot.held
  manual := s.rot.manual
  serial := (s.rot.serial + 1) % 256
  bound := 2 * s.cfg.s + s.seq.fullBound

/-- Making a claim (R97). -/
def State.makeClaim (s : State) : State :=
  ({ s with
      rot := { s.rot with
        serial := s.claimContent.serial
        claimed := some ⟨s.cond.urgency, s.cond.runTime⟩
        outstanding := some s.claimContent.serial } }).offer (.claim s.claimContent)

/-- An evaluation of admission (R92, R96). -/
def State.evaluate (s : State) : State :=
  let t := { s with
    rot := { s.rot with predictedRate := s.predicted s.admissionK, lastRefusal := s.admissionFailure } }
  match s.admissionFailure, s.rot.outstanding with
  | none, none => t.makeClaim
  | none, some _ => t
  | some _, none => t
  | some _, some _ => t.withdrawClaim

/-! ## Claims and yields (R98 to R102) -/

/-- The claimed values, the claim flags and the settle deadline become absent. -/
def State.clearClaim (s : State) : State :=
  { s with rot := { s.rot with claimed := none, claimFlags := none, settleDeadline := none } }

/-- To yield: the YIELD, the reason, the claim cleared, QUEUED (R102). -/
def State.yieldFor (why : Reason) (s : State) : State :=
  let t := s.offer (.yield s.rot.serial)
  (({ t with rot := { t.rot with lastRefusal := some why } }).clearClaim).changeState .queued

/-- The first yield condition of R102 that holds. -/
def State.yieldReason (s : State) : Option Reason :=
  if s.effectiveHold then some .hold
  else if s.link.dupAddress then some .silent
  else if s.cfg.w ≤ s.aheadOccupying then some .slots
  else none

/-- A test of the yield conditions (R101, R102). -/
def State.testYield (s : State) : State :=
  match s.yieldReason with
  | some why => s.yieldFor why
  | none => s

/-- The sent notice of a CLAIM (R100). -/
def State.claimSent (c : ClaimContent) (s : State) : State :=
  if s.rot.outstanding = some c.serial then
    let t := { s with rot := { s.rot with outstanding := none } }
    if s.rot.service = .queued ∧ s.rot.claimed.isSome then
      (({ t with
          rot := { t.rot with
            claimFlags := some ⟨c.held, c.manual⟩
            settleDeadline := some (s.now + 2 * s.cfg.s) } }).changeState .claiming).testYield
    else t.offer (.yield c.serial)
  else s

/-- The sent notice of a frame (R69): a CLAIM's is R100's, a YIELD's (R103) and a DONE's (R131) change nothing. -/
def State.sentNotice (f : Frame) (s : State) : State :=
  match f with
  | .claim c => s.claimSent c
  | .yield _ | .done _ _ | .status _ => s

/-- Closing off the claim protocol when QUEUED or CLAIMING is left by an isolation request (R43). -/
def State.closeOff (s : State) : State :=
  match s.rot.service with
  | .claiming => (s.offer (.yield s.rot.serial)).clearClaim
  | .queued => if s.rot.outstanding.isSome then s.withdrawClaim.clearClaim else s
  | .start | .filtering | .washing | .ripening | .standby | .isolated => s

/-! ## Events that reach the rotation controller -/

/-- A status tick or a change of the effective hold: QUEUED evaluates, CLAIMING tests (R91, R101). -/
def State.rotationTick (s : State) : State :=
  match s.rot.service with
  | .queued => s.evaluate
  | .claiming => s.testYield
  | .start | .filtering | .washing | .ripening | .standby | .isolated => s

/-- The lapse of a peer's occupancy: QUEUED evaluates (R91). -/
def State.rotationLapse (s : State) : State := if s.rot.service = .queued then s.evaluate else s

/-- A YIELD or a DONE: the kinds on whose reception a QUEUED station evaluates (R91). -/
def FrameKind.releases : FrameKind → Bool
  | .yield | .done => true
  | .status | .claim => false

/-- A good frame heard from a peer; its kind is absent where it failed the range checks of R76 (R91, R101). -/
def State.rotationFrame (kind : Option FrameKind) (s : State) : State :=
  match s.rot.service with
  | .queued => if kind.any FrameKind.releases || s.rot.outstanding.isSome then s.evaluate else s
  | .claiming => s.testYield
  | .start | .filtering | .washing | .ripening | .standby | .isolated => s

/-- A change in the truth of the effective hold since `before` is delivered (R53, R88). -/
def State.holdEvent (before : Bool) (s : State) : State :=
  if s.effectiveHold = before then s else s.rotationTick

/-- The setting of the duplicate-address flag (R73, R110): queue emptied, owners told, CLAIMING yields. -/
def State.duplicateAddress (s : State) : State :=
  if s.link.dupAddress then s
  else
    let t := { s with
      link := { s.link with
        dupAddress := true, queue := [], attempt := none, statusDue := false, accessWait := none, echoed := 0
        waitFromQuiet := false } }
    let u := s.link.queue.foldl (fun (x : State) f => x.discardNotice f) t
    if u.rot.service = .claiming then u.yieldFor .silent else u

/-- A good frame from a peer: the peer table first, the change of the hold, then the rotation controller (R72, R88). -/
def State.peerFrame (g : GoodFrame) (s : State) : State :=
  match readPayload g.kind g.payload with
  | some h =>
    let t := ({ s with peers := recordHeard s.now g.source h s.peers }).refreshOversub
    (t.holdEvent s.effectiveHold).rotationFrame (some g.kind)
  | none => s.rotationFrame none

/-- A complete frame is checked and, if good, delivered (R72, R73). -/
def State.takeFrame (bytes : List Byte) (s : State) : State :=
  match goodFrame s.cfg.nG bytes with
  | some g => if g.source = s.ownNumber then s.duplicateAddress else s.peerFrame g
  | none => s

/-! ## Settle expiry (R104, R105) -/

/-- k at settle expiry (R105). -/
def State.settleK (s : State) : Nat := s.inService.toNat + s.outrankingInService

/-- The first check of R104 that fails. -/
def State.settleFailure (s : State) : Option Reason :=
  if s.cfg.w ≤ s.aheadOccupying then some .slots
  else if !s.ratePasses s.settleK then some .rate
  else if !s.supplyPasses then some .supply
  else none

/-- What the entry to WASHING does to the claim and the attributes, before the sequencer starts (R104). -/
def State.enterWashing (s : State) : State :=
  let t := s.clearClaim
  ({ t with rot := { t.rot with lastRefusal := none, held := false, recovery := false } }).enterState .washing

end Sys2Proof.Machine
end

