-- ==== Sys2Proof/Machine/Attempt.lean ====
section
/-! DEFINITION. An attempt of the head frame: the characters the station drives (R57, R59, R68), the comparison of its
echo (R68), and what becomes of the frame (R69). -/

namespace Sys2Proof.Machine

/-- The bits of the characters of a frame as this station drives them, its own number in the lead character (R56, R57,
R59). -/
def State.driven (s : State) (f : Frame) : List LineBits := lineBits (f.bytes s.ownNumber)

/-- The frame in transmission has been sent: it leaves the queue, link-fault clears, its owner is told (R69). -/
def State.frameSent (f : Frame) (s : State) : State :=
  (({ s with link := { s.link.pop with linkFault := false } }).formDue f.isStatus).sentNotice f

/-- The frame is discarded after its eighth attempt: link-fault is set, its owner is told (R69). -/
def State.frameDiscarded (f : Frame) (s : State) : State :=
  (({ s with link := { s.link.pop with linkFault := true } }).formDue f.isStatus).discardNotice f

/-- The attempt is abandoned: the frame waits its gap again, or is discarded after the eighth attempt (R68). -/
def State.attemptAbandoned (f : Frame) (s : State) : State :=
  if s.link.attempt.any (fun k => Config.attemptLimit ≤ k) then s.frameDiscarded f
  else { s with link := s.link.abandon }

/-- The next character of an attempt echoes as these bits: all eleven are compared with those driven; a match of the
last character sends the frame, the first mismatch abandons the attempt (R68, R69). -/
def State.echoOf (f : Frame) (bits : LineBits) (s : State) : State :=
  match (s.driven f)[s.link.echoed]? with
  | some driven =>
    if bits = driven then
      if s.link.echoed + 1 = (s.driven f).length then s.frameSent f
      else { s with link := { s.link with echoed := s.link.echoed + 1 } }
    else s.attemptAbandoned f
  | none => s

/-- A character read back while the station is driving the line (R68). -/
def State.echo (bits : LineBits) (s : State) : State :=
  match s.link.queue with
  | f :: _ => s.echoOf f bits
  | [] => s

end Sys2Proof.Machine
end

