-- ==== Sys2Proof/Machine/Drive.lean ====
section
/-! DEFINITION. The drive unit's own operations: move requests (R146, R148), the ends of a move (R147, R149, R150), the
clearing of faults (R153), the blower's requests and its output (R154 to R156). Who takes a report is in Events.lean. -/

namespace Sys2Proof.Machine

/-! ## Beginning and joining a move -/

/-- A request joins the waiting requests in place of an earlier one of its requester (R146). -/
def ValveRec.join (who : Requester) (r : ValveRec) : ValveRec := { r with waiting := r.waiting.erase who ++ [who] }

/-- A drive begins toward an end: coil energized, travel timer 0 (R147). -/
def ValveRec.begin (e : ValveEnd) (r : ValveRec) : ValveRec :=
  { r with pos := ValveEnd.moving e, drive := .energized, timer := 0 }

/-- A reversal toward an end: coil de-energized, waiting requests superseded, the pause begins (R148). -/
def ValveRec.reverse (e : ValveEnd) (who : Requester) (r : ValveRec) : ValveRec :=
  { r with pos := ValveEnd.moving e, drive := .pause, timer := 0, redrive := false, waiting := [who] }

/-- What a move request makes of a valve record (R146). -/
def ValveRec.request (who : Requester) (target : ValveEnd) (r : ValveRec) : ValveRec :=
  let c := { r with commanded := some target }
  match r.pos with
  | .fault => c
  | .unknown => (c.begin target).join who
  | .opened => if target = .openEnd then c else (c.begin target).join who
  | .closed => if target = .closedEnd then c else (c.begin target).join who
  | .opening => if target = .openEnd then { c.join who with redrive := false } else c.reverse target who
  | .closing => if target = .closedEnd then { c.join who with redrive := false } else c.reverse target who

/-- A move request of a requester for a valve toward a target (R146). The limit switches are inputs, and the one at the
end the valve leaves reads made until its own change says otherwise (R147, R149). DESIGN CHOICE (entry 27): a drive that
begins with its target switch already made ends at the next drive second, not at once. -/
def State.requestMove (who : Requester) (target : ValveEnd) (v : Valve) (s : State) : State :=
  s.setValve v ((s.valve v).request who target)

/-- Move requests for several valves, all together. -/
def State.requestMoves (who : Requester) (target : ValveEnd) (vs : List Valve) (s : State) : State :=
  vs.foldl (fun (t : State) v => t.requestMove who target v) s

/-- A requester has a request waiting on a valve. -/
def State.waits (who : Requester) (vs : List Valve) (s : State) : Bool :=
  vs.any (fun v => (s.valve v).waiting.contains who)

/-- Some of these valves stand in FAULT: a request for such a valve is answered with fault at once (R146). -/
def State.anyFaulted (vs : List Valve) (s : State) : Bool := vs.any (fun v => (s.valve v).pos == .fault)

/-! ## The blower (R154 to R156) -/

/-- The mode calls for the output (R154). -/
def BlowerRec.calls (b : BlowerRec) : Bool :=
  match b.mode with
  | .pulsed => b.pulse.any (fun p => p.on)
  | .continuous => true
  | .stopped | .pulseEnded => false

/-- The pressure switch read made while the output is on (R156). -/
def BlowerRec.see (b : BlowerRec) : BlowerRec := { b with feedbackSeen := true, feedbackTimer := 0 }

/-- The output after a change of mode, pulse, fault or AIR valve: on where the mode calls for it, no fault stands and
AIR is OPEN. A passage from off to on is a start: feedback seen is cleared and the switch is read (R154, R156). -/
def BlowerRec.follow (airOpen pressure : Bool) (b : BlowerRec) : BlowerRec :=
  let on := b.calls && !b.fault && airOpen
  if on && !b.output then
    let c := { b with output := true, feedbackSeen := false }
    if pressure then c.see else c
  else { b with output := on }

/-- AIR is confirmed open. -/
def State.airOpen (s : State) : Bool := s.drive.air.pos == .opened

/-- Setting the blower record with its output brought up to date. -/
def State.setBlowerFollowing (b : BlowerRec) (s : State) : State :=
  s.setBlower (b.follow s.airOpen s.pins.pressure)

/-- The request to run pulsed or continuous (R154); with t_off of 0 pulsed is continuous. -/
def State.blowerPulsed (s : State) : State :=
  if s.cfg.tOff = 0 then s.setBlowerFollowing { s.drive.blower with mode := .continuous, pulse := none }
  else s.setBlowerFollowing { s.drive.blower with mode := .pulsed, pulse := some ⟨true, 0⟩ }

/-- The request to run continuous (R154). -/
def State.blowerContinuous (s : State) : State :=
  s.setBlowerFollowing { s.drive.blower with mode := .continuous, pulse := none }

/-- The request to end pulsed operation: the output stays as it stands (R154). -/
def State.blowerEndPulsed (s : State) : State :=
  if s.drive.blower.mode = .pulsed then s.setBlower { s.drive.blower with mode := .pulseEnded, pulse := none } else s

/-- The request to stop (R154). -/
def State.blowerStop (s : State) : State :=
  s.setBlower { s.drive.blower with mode := .stopped, pulse := none, output := false }

/-- The request to clear the blower fault, where one stands (R114, R154). -/
def State.blowerClear (s : State) : State :=
  if s.drive.blower.fault then
    s.setBlower { s.drive.blower with fault := false, feedbackTimer := 0, feedbackSeen := false }
  else s

/-- The blower record of a blower fault (R156). -/
def BlowerRec.faulted (b : BlowerRec) : BlowerRec :=
  { b with output := false, mode := .stopped, pulse := none, fault := true }

/-- AIR's end with T_aw = 0 turned the output off in this second of station time and no fault stands. DESIGN CHOICE (entry
17): a blower fault of this second is still taken, as R119 says, though R156 checks feedback with the output on alone. -/
def State.airEndedNow (s : State) : Bool := s.drive.airEndStop == some s.now && !s.drive.blower.fault

/-- The blower resumes when AIR has come to OPEN, where its mode calls for it (R154). -/
def State.blowerResume (s : State) : State :=
  if s.drive.blower.calls then s.setBlowerFollowing s.drive.blower else s

/-! ## Ends of a move -/

/-- The record of a completed move (R147); a re-drive captures no travel time (R150). DESIGN CHOICE (entry 24): the
travel timer keeps its value while the drive is IDLE. -/
def ValveRec.complete (e : ValveEnd) (travel : Nat) (r : ValveRec) : ValveRec :=
  { r with
    pos := ValveEnd.atRest e
    drive := .idle
    redrive := false
    waiting := []
    lastTravel := if r.redrive then r.lastTravel else some r.timer
    slow := if r.redrive then r.slow else decide (4 * travel < 5 * r.timer) }

/-- A completed opening of EFF or FTW starts settling (R12, R147); AIR coming to OPEN lets the blower resume (R154). -/
def State.openingCompleted (v : Valve) (s : State) : State :=
  match v with
  | .eff | .ftw => s.startSettling
  | .air => s.blowerResume
  | .inf | .drn | .ww => s

/-- The target switch of a driven valve is made: the move completes and its requests are answered (R147). -/
def State.completeMove (v : Valve) (s : State) : State :=
  match (s.valve v).pos.movingTo with
  | some e =>
    let t := s.setValve v ((s.valve v).complete e (s.cfg.travel v))
    if e = .openEnd then t.openingCompleted v else t
  | none => s

/-- The record of a valve that enters FAULT: coil de-energized, requests answered with fault (R147, R149, R150). -/
def ValveRec.enterFault (kind : FaultKind) (r : ValveRec) : ValveRec :=
  { r with pos := .fault, drive := .idle, redrive := false, waiting := [], faultKind := some kind }

/-- A valve enters FAULT; the report is Events.lean's. -/
def State.faultValve (v : Valve) (kind : FaultKind) (s : State) : State :=
  s.setValve v ((s.valve v).enterFault kind)

/-- The fault kind of a drive that reaches its travel time: DRIFT of a re-drive, else STUCK (R147, R150). -/
def ValveRec.timeoutKind (r : ValveRec) : FaultKind := if r.redrive then .drift else .stuck

/-- The loss is a second loss: the last drift loss lies less than 60 s in the past (R150). -/
def ValveRec.secondLoss (now : Nat) (r : ValveRec) : Bool := r.lastDrift.any (fun t => now - t < Config.driftWindow)

/-- A first loss: its time is recorded and the valve is re-driven toward its target (R150). -/
def State.redriveValve (v : Valve) (e : ValveEnd) (s : State) : State :=
  s.setValve v { (s.valve v).begin e with redrive := true, lastDrift := some s.now }

/-! ## Positions from the switches (R152, R153) -/

/-- The record with its position read from the switches; both made is a FEEDBACK fault (R152). -/
def ValveRec.readPosition (w : Switches) (r : ValveRec) : ValveRec :=
  { r with pos := w.position, faultKind := if w.position = .fault then some .feedback else r.faultKind }

/-- The clear request on one valve (R153). -/
def State.clearFault (v : Valve) (s : State) : State :=
  let r := s.valve v
  if r.pos = .fault then
    s.setValve v ({ r with faultKind := none, lastDrift := none }.readPosition (s.switches v))
  else s

/-- The clear request on every valve (R153). -/
def State.clearFaults (s : State) : State := allValves.foldl (fun (t : State) v => t.clearFault v) s

/-- At RELEASE a valve found CLOSED or OPEN takes that position as its commanded target (R152). -/
def State.takePosition (v : Valve) (s : State) : State :=
  match (s.valve v).pos.restEnd with
  | some e => s.setValve v { s.valve v with commanded := some e }
  | none => s

/-! ## The drive second (R147, R148, R155, R156), part by part -/

/-- Timers and pauses of one valve: a pause ends, an energized drive counts (R147, R148). -/
def ValveRec.second (r : ValveRec) : ValveRec :=
  match r.drive with
  | .idle => r
  | .pause => { r with drive := .energized }
  | .energized => { r with timer := r.timer + 1 }

/-- The target switch of a driven valve reads made. -/
def State.targetMade (v : Valve) (s : State) : Bool :=
  match (s.valve v).pos.movingTo with
  | some e => (s.valve v).drive == .energized && (s.switches v).at e
  | none => false

/-- The travel time of a driven valve has run out with its target switch not made (R147). -/
def State.travelOut (v : Valve) (s : State) : Bool :=
  (s.valve v).drive == .energized && decide (s.cfg.travel v ≤ (s.valve v).timer) && !s.targetMade v

/-- The feedback timer reaches 10 s at this drive second, with feedback not seen and the switch not made (R156). -/
def BlowerRec.runsOut (pressure : Bool) (b : BlowerRec) : Bool :=
  !pressure && !b.feedbackSeen && decide (Config.feedbackLimit ≤ b.feedbackTimer + 1)

/-- The feedback check of a drive second: the switch is read first, then the timer counts (R156); `ended` says that AIR's
end turned the output off in this same second (R119). The second component says that the blower faults. -/
def BlowerRec.checkFeedback (pressure ended : Bool) (b : BlowerRec) : BlowerRec × Bool :=
  if (b.output || ended) && b.runsOut pressure then ({ b.faulted with feedbackTimer := Config.feedbackLimit }, true)
  else if !b.output then (b, false)
  else if pressure then (b.see, false)
  else if b.feedbackSeen then (b.faulted, true)
  else ({ b with feedbackTimer := b.feedbackTimer + 1 }, false)

/-- The pulse timing of a drive second (R155). -/
def State.pulseSecond (s : State) : State :=
  match s.drive.blower.pulse with
  | none => s
  | some p =>
    let limit := if p.on then s.cfg.tOn else s.cfg.tOff
    let p' : Pulse := if limit ≤ p.elapsed + 1 then ⟨!p.on, 0⟩ else ⟨p.on, p.elapsed + 1⟩
    s.setBlowerFollowing { s.drive.blower with pulse := some p' }

end Sys2Proof.Machine
end

