-- ==== Sys2Proof/Machine/Rotation.lean ====
section
/-! DEFINITION. Isolation (R42 to R44) and the abandoning of a ripening (R142). -/

namespace Sys2Proof.Machine

/-- The close requests of an isolation: INF, EFF, and FTW when it is commanded open (R42). DESIGN CHOICE (entry 26): in
ENDING FTW is commanded closed, so no request of the isolation joins or supersedes the sequencer's close (R142). -/
def State.isolationRequest (s : State) : State :=
  s.requestMoves .rotation .closedEnd
    (if s.drive.ftw.commanded = some .openEnd then [.inf, .eff, .ftw] else [.inf, .eff])

/-- The ripening record at IDLE, the ripen-unverified flag kept (R140 to R142). -/
def Ripening.idled (r : Ripening) : Ripening := { r with step := .idle, elapsed := 0, hold := 0, basis := none }

/-- Leaving RIPENING early: the ripening is abandoned, a deferred WASH-NOW discarded (R142, R48, R44, R46). -/
def State.abandonRipening (s : State) : State :=
  if s.rot.service = .ripening then
    { s with rip := s.rip.idled, rot := { s.rot with deferredWashNow := false } }
  else s

/-- Isolation into STANDBY or ISOLATED: the claim closed off, the ripening abandoned, the closes requested, and the
state changed at the moment of the request (R42, R43). -/
def State.isolateTo (new : ServiceState) (s : State) : State :=
  (s.closeOff.abandonRipening.isolationRequest).changeState new

/-- A fault of this valve isolates the station in this service state (R44). -/
def isolatesOn (v : Valve) : ServiceState → Bool
  | .filtering | .queued | .claiming => v == .inf || v == .eff
  | .ripening => v == .inf || v == .eff || v == .ftw
  | .start | .washing | .standby | .isolated => false

/-- A valve fault taken by the rotation controller outside a wash (R44). -/
def State.faultOutsideWash (v : Valve) (s : State) : State :=
  if isolatesOn v s.rot.service then s.isolateTo .isolated else s

end Sys2Proof.Machine
end

