-- ==== Sys2Proof/Machine/Startup.lean ====
section
/-! DEFINITION. The start-up controller: start-up (R158, R159), the load and its checks (R161, R162), survey and LISTEN
(R164, R165), release (R166) and recovery (R167). -/

namespace Sys2Proof.Machine

/-! ## Start-up begins (R159) -/

/-- The bytes a whole record write leaves at 0..97: the record and its CRC (R168). -/
def recordImage (record : List Byte) : List Byte := withCheck record

/-- Byte 0..97 after a record write was cut off: new or old, by a free value (R168; entry 9). -/
def cutRecordWrite (write : Nat) (image : List Byte) (m : Memory) : Memory :=
  image.zipIdx.foldl (fun (acc : Memory) p => if Config.cutByteIsNew write p.2 then acc.write p.2 p.1 else acc) m

/-- The memory as a start-up finds it: a write in progress is cut off (R168, R169; entries 9, 10). -/
def State.memAtStartUp (s : State) : Memory :=
  match s.startup.memWrite, s.port.processing with
  | .record, some ⟨.writeConfig record, _⟩ => cutRecordWrite s.freeCount (recordImage record) s.mem
  | .lock, _ => s.mem.write 127 (Config.cutLockByte s.freeCount)
  | .record, _ => s.mem
  | .none, _ => s.mem

/-- Start-up at SAFE: every block at its start values, station time 0; the memory is kept, and so are the pins, which
are inputs (R158 to R160). -/
def State.startUp (s : State) : State where
  now := 0
  pins := s.pins
  mem := s.memAtStartUp
  meas := .start
  cond := .start
  rot := .start
  link := .start
  peers := []
  seq := .start
  rip := .start
  drive := .start
  startup := .start
  port := .start
  delivered := []
  freeCount := s.freeCount + 1
  pending := s.pending

/-! ## The checks of R162 -/

/-- The range of a value. -/
def inRange (x lo hi : Nat) : Bool := lo ≤ x && x ≤ hi

/-- Field i of a record lies in its range and in its relation to the fields before it and the station number (R162). -/
def fieldPasses (number : Nat) (f : Nat → Nat) (i : Nat) : Bool :=
  match i with
  | 1 => inRange (f 1) 2 16 && number < f 1
  | 2 => inRange (f 2) 1 3 && f 2 < f 1
  | 3 => inRange (f 3) 1 10
  | 4 => inRange (f 4) 10 200
  | 5 => inRange (f 5) 50 250
  | 6 => inRange (f 6) 50 400
  | 7 => inRange (f 7) 600 10080
  | 8 => inRange (f 8) 0 1440 && 4 * f 8 < 3 * f 7
  | 9 => inRange (f 9) 500 1000
  | 10 => inRange (f 10) 50 1000
  | 11 => inRange (f 11) 50 4000 && f 10 ≤ f 11
  | 12 => inRange (f 12) 20 1000 && f 12 ≤ f 10
  | 13 => inRange (f 13) 0 600
  | 14 => inRange (f 14) 0 600 && f 13 < f 14
  | 15 => inRange (f 15) 0 5000
  | 16 => inRange (f 16) 0 5000 && f 15 < f 16
  | 17 => inRange (f 17) 0 400
  | 18 => inRange (f 18) 0 400 && f 17 < f 18
  | 19 => inRange (f 19) 0 4000
  | 20 => inRange (f 20) 0 4000 && f 19 < f 20
  | 21 => inRange (f 21) 0 1000
  | 22 => inRange (f 22) 0 1000 && f 21 < f 22
  | 23 => inRange (f 23) 0 400
  | 24 => inRange (f 24) 0 400 && f 23 < f 24
  | 25 => inRange (f 25) 0 1000
  | 26 => inRange (f 26) 0 1000
  | 27 => inRange (f 27) 0 1000 && f 26 < f 27 && f 27 ≤ f 25
  | 28 => inRange (f 28) 60 1800
  | 29 => inRange (f 29) 30 900
  | 30 => inRange (f 30) 5 120
  | 31 => inRange (f 31) 0 120
  | 32 => inRange (f 32) 0 900
  | 33 => inRange (f 33) 60 1800
  | 34 => inRange (f 34) 0 900
  | 35 => inRange (f 35) 60 1800
  | 36 => inRange (f 36) 30 1800
  | 37 => inRange (f 37) 300 7200 && f 36 ≤ f 37
  | 38 | 39 | 40 | 41 | 42 | 43 => inRange (f i) 5 120
  | _ => true

/-- The 43 indexes, in order. -/
def fieldIndexes : List Nat := (List.range 43).map (· + 1)

/-- The first field that fails its checks (R162). -/
def firstFailing (number : Nat) (f : Nat → Nat) : Option Nat :=
  fieldIndexes.find? (fun i => !fieldPasses number f i)

/-- The config-fault index of a load, or none where it passes: the CRC first, then the fields (R161). -/
def loadFailure (number : Nat) (m : Memory) : Option Nat :=
  if m.crcMatches then firstFailing number m.field else some 0

/-- LOAD: the straps, the lock state, the checks, the working copy and the full wash bound (R161, R127). DESIGN CHOICE
(entry 8): within the command that ends SAFE. -/
def State.load (s : State) : State :=
  let number := s.pins.straps.toNat
  let base := { s.startup with number := some number, locked := s.mem.lockReads }
  match loadFailure number s.mem with
  | none =>
    let p := Params.ofFields s.mem.field
    { s with
      startup := { base with working := some ⟨p, s.mem.record⟩, stage := .inputs }
      seq := { s.seq with fullBound := p.fullBound } }
  | some i => { s with startup := { base with faultIndex := some i, stage := .configFault } }

/-! ## Survey and LISTEN (R164, R165) -/

/-- The service pattern: INF and EFF OPEN, the others CLOSED (R164). -/
def Drive.servicePattern (d : Drive) : Bool :=
  d.inf.pos == .opened && d.eff.pos == .opened && d.drn.pos == .closed && d.ww.pos == .closed
    && d.air.pos == .closed && d.ftw.pos == .closed

/-- All six CLOSED (R164). -/
def Drive.allClosed (d : Drive) : Bool :=
  d.inf.pos == .closed && d.eff.pos == .closed && d.drn.pos == .closed && d.ww.pos == .closed
    && d.air.pos == .closed && d.ftw.pos == .closed

/-- The survey selection that positions give (R164). -/
def Drive.selection (d : Drive) : Selection :=
  if d.servicePattern then .filtering else if d.allClosed then .standby else .recovery

/-- One valve's position read at the survey (R152). -/
def State.surveyValve (v : Valve) (s : State) : State :=
  s.setValve v ((s.valve v).readPosition (s.switches v))

/-- SURVEY, and LISTEN begins with the receiver enabled (R164, R165). DESIGN CHOICE (entry 8): within the sample that
ends INPUTS. -/
def State.survey (s : State) : State :=
  let t := allValves.foldl (fun (x : State) v => x.surveyValve v) s
  { t with
    startup := { t.startup with stage := .listen, selection := some t.drive.selection, listenElapsed := 0 }
    link := { t.link with receiver := true } }

/-- Every channel is VALID or FAULT (R17). -/
def Measurement.allReady (m : Measurement) : Bool :=
  allChannels.all (fun ch => (m.get ch).status != .notReady)

/-- INPUTS ends when the last channel has left NOT-READY (R17, R164). -/
def State.endInputs (s : State) : State :=
  if s.startup.stage = .inputs ∧ s.meas.allReady then s.survey else s

/-! ## Release and recovery (R166, R167) -/

/-- The stage becomes RUNNING and the status tick count starts as the first service state is taken (R70, R166). -/
def State.startRunning (s : State) : State :=
  { s with startup := { s.startup with stage := .running }, link := { s.link with statusTick := some 0 } }

/-- Recovery ends when every close has completed or faulted: in ISOLATED where a valve fault has been reported, in
QUEUED where all six stand closed (R167). DESIGN CHOICE (entry 15): with no fault reported, a valve re-driven after a
drift is waited for. -/
def State.recoveryProgress (s : State) : State :=
  if s.startup.stage = .recovery ∧ !s.waits .startup allValves then
    if s.drive.valveFault then s.startRunning.changeState .isolated
    else if s.drive.allClosed then s.startRunning.changeState .queued
    else s
  else s

/-- Recovery begins: held and recovery, all six requested closed (R167). -/
def State.beginRecovery (s : State) : State :=
  (({ s with
      rot := { s.rot with held := true, recovery := true }
      startup := { s.startup with stage := .recovery } }).requestMoves .startup .closedEnd
    allValves).recoveryProgress

/-- The selection as it is rechecked at RELEASE: kept where the positions still show its pattern (R166). -/
def State.rechecked (s : State) : Selection :=
  if s.startup.selection = some s.drive.selection then s.drive.selection else .recovery

/-- RELEASE (R166). DESIGN CHOICE (entry 8): within the second that ends LISTEN. -/
def State.release (s : State) : State :=
  let t := allValves.foldl (fun (x : State) v => x.takePosition v) s
  let u := { t with startup := { t.startup with selection := some t.rechecked } }
  match t.rechecked with
  | .filtering => u.startRunning.resumeRun.changeState .filtering
  | .standby => u.startRunning.changeState .standby
  | .recovery => u.beginRecovery

end Sys2Proof.Machine
end

