-- ==== Sys2Proof/Machine/Ripen.lean ====
section
/-! DEFINITION. Ripening: its entry (R135, R136), its second (R137, R138), its ends (R140, R141) and the loss of CH1
(R139). -/

namespace Sys2Proof.Machine

/-- Setting the ripening record. -/
def State.setRip (r : Ripening) (s : State) : State := { s with rip := r }

/-- The valves the ripening pattern has closed besides INF and FTW (R136). -/
def ripeningCloses : List Valve := [.eff, .drn, .ww, .air]

/-- The valves the ripening pattern has open (R136). -/
def ripeningOpens : List Valve := [.inf, .ftw]

/-- OPENING ends when both opens have completed: the entry is complete (R136). -/
def State.ripeningOpened (s : State) : State :=
  if s.waits .sequencer ripeningOpens then s else s.setRip { s.rip with step := .running, elapsed := 0, hold := 0 }

/-- The OPENING step of the entry (R136). -/
def State.ripeningOpening (s : State) : State :=
  ((s.setRip { s.rip with step := .opening }).requestMoves .sequencer .openEnd ripeningOpens).ripeningOpened

/-- CLOSING ends when each of the four closes has completed or faulted (R136). -/
def State.ripeningClosed (s : State) : State :=
  if s.waits .sequencer ripeningCloses then s else s.ripeningOpening

/-- The basis at the start of a ripening: VERIFIED when CH1 is VALID (R135). -/
def State.startBasis (s : State) : Basis := if s.meas.ch1.status = .valid then .verified else .onTime

/-- The actions that begin a ripening: its record, and the requests of CLOSING (R135, R136). -/
def State.startRipening (s : State) : State :=
  (s.setRip { s.rip with step := .closing, elapsed := 0, hold := 0, basis := some s.startBasis }).requestMoves
    .sequencer .closedEnd ripeningCloses

/-- Ripening begins, and its entry goes on as far as the valves allow (R135, R136). -/
def State.beginRipening (s : State) : State := s.startRipening.ripeningClosed

/-- The rotation controller takes the success of a ripening: FILTERING, or QUEUED with a deferred WASH-NOW (R46). -/
def State.takeRipened (s : State) : State :=
  if s.rot.deferredWashNow then
    ({ s with rot := { s.rot with deferredWashNow := false, manual := true } }).changeState .queued
  else s.changeState .filtering

/-- The success actions after FTW's close: EFF open, a new run, IDLE, the report (R140, steps 2 to 5). -/
def State.ripeningSucceeded (s : State) : State :=
  let t := (s.requestMove .sequencer .openEnd .eff).beginRun
  (t.setRip t.rip.idled).takeRipened

/-- ENDING goes on to the success actions once FTW is confirmed closed (R140). -/
def State.ripeningEnding (s : State) : State :=
  if !s.waits .sequencer [.ftw] && s.drive.ftw.pos == .closed then s.ripeningSucceeded else s

/-- Success: ENDING, the ripen-unverified flag fixed, FTW requested closed (R140, step 1). -/
def State.ripeningSuccess (s : State) : State :=
  ((s.setRip { s.rip with step := .ending, unverified := s.rip.basis != some .verified }).requestMove .sequencer
    .closedEnd .ftw).ripeningEnding

/-- RIPEN-FAIL (R141, R46). -/
def State.ripeningFailed (s : State) : State :=
  ({ s with rot := { s.rot with ripenFail := true } }).isolateTo .isolated

/-- The hold timer at a ripening second (R138). -/
def State.holdAtSecond (s : State) : Nat :=
  if s.holdRuns then if s.turbidityRipened then min 1800 (s.rip.hold + 1) else 0 else s.rip.hold

/-- The record after the first two steps of a ripening second (R137). -/
def State.ripeningCount (s : State) : State :=
  s.setRip { s.rip with elapsed := s.rip.elapsed + 1, hold := s.holdAtSecond }

/-- Success holds: the basis is VERIFIED and the hold timer has reached T_rhold (R137). -/
def State.ripenedNow (s : State) : Bool := s.rip.basis == some .verified && decide (s.cfg.tRhold ≤ s.rip.hold)

/-- Expiry holds: ripening elapsed has reached T_rmax (R137). -/
def State.ripeningExpired (s : State) : Bool := s.cfg.tRmax ≤ s.rip.elapsed

/-- A ripening second in RUNNING (R137). -/
def State.ripeningSteps (s : State) : State :=
  let t := s.ripeningCount
  if t.ripenedNow then t.ripeningSuccess
  else if t.ripeningExpired then
    if t.rip.basis = some .verified then t.ripeningFailed else t.ripeningSuccess
  else t

/-- CH1 enters FAULT: the basis becomes ON-TIME in CLOSING, OPENING and RUNNING (R139). -/
def State.ripeningChannelLost (s : State) : State :=
  match s.rip.step with
  | .closing | .opening | .running => s.setRip { s.rip with basis := some .onTime, hold := 0 }
  | .idle | .ending => s

/-- The ripening goes on after a valve's move has ended (R136, R140). -/
def State.ripeningProgress (s : State) : State :=
  match s.rip.step with
  | .closing => s.ripeningClosed
  | .opening => s.ripeningOpened
  | .ending => s.ripeningEnding
  | .idle | .running => s

end Sys2Proof.Machine
end

