-- ==== Sys2Proof/Machine/Wash.lean ====
section
/-! DEFINITION. The wash sequencer: phase patterns (R113), entries (R115), phases (R117 to R124), the end of a wash
(R131, R45), the abort path (R129, R130), the start of a wash (R114). Later phases stand first, since each phase goes
on to the next. -/

namespace Sys2Proof.Machine

/-! ## Patterns (R113) -/

/-- The valves a phase's pattern has open; AIR_WATER after a blower fault has AIR closed (R113, R119). -/
def phaseOpens (airSkipped : Bool) : Activity → List Valve
  | .lower => [.eff]
  | .air => [.air]
  | .airWater => if airSkipped then [.drn, .ww] else [.drn, .ww, .air]
  | .rinse => [.drn, .ww]
  | .refill => [.inf]
  | .idle | .abortPath => []

/-- The valves a phase's pattern has closed. -/
def phaseCloses (airSkipped : Bool) (a : Activity) : List Valve :=
  allValves.filter (fun v => !(phaseOpens airSkipped a).contains v)

/-- The blower of a phase's pattern: STOPPED stands for off (R113). -/
def phaseBlower (airSkipped : Bool) : Activity → BlowerMode
  | .air => .pulsed
  | .airWater => if airSkipped then .stopped else .continuous
  | .lower | .rinse | .refill | .idle | .abortPath => .stopped

/-! ## The end of a wash (R131, R45) -/

/-- The sequencer record at the end of a wash: IDLE; the wash clock and the degrade flags are kept (R131). -/
def Sequencer.ended (q : Sequencer) : Sequencer :=
  { q with
    activity := .idle, subStep := none, phaseElapsed := 0, blowerOn := 0, rinseElapsed := 0, rinseWater := none
    suspTotal := 0, abortCause := none }

/-- The rotation controller takes the end of a wash (R45). -/
def State.takeWashEnd (outcome : WashOutcome) (s : State) : State :=
  let t := { s with rot := { s.rot with deferredTakeOut := false } }
  match outcome with
  | .complete =>
    if s.rot.deferredTakeOut then t.isolationRequest.changeState .standby
    else (t.changeState .ripening).beginRipening
  | .aborted | .fault => t.changeState .isolated

/-- The end of a wash: the DONE is offered, the record returns to IDLE, the end is reported (R131). -/
def State.endWash (outcome : WashOutcome) (s : State) : State :=
  let t := s.offer (.done outcome s.seq.washClock)
  (t.setSeq t.seq.ended).takeWashEnd outcome

/-! ## The abort path (R129, R130) -/

/-- The outcome of an abort path (R129). -/
def abortOutcome : Option AbortCause → WashOutcome
  | some .operator | none => .aborted
  | some .fault => .fault

/-- The abort path ends when every one of the six closes has completed or faulted (R129). -/
def State.abortProgress (s : State) : State :=
  if s.waits .sequencer allValves then s else s.endWash (abortOutcome s.seq.abortCause)

/-- The abort cause becomes FAULT (R130). -/
def State.causeFault (s : State) : State := s.setSeq { s.seq with abortCause := some .fault }

/-- Taking the abort path (R129); a valve already in FAULT answers its close with fault, which is R130's. -/
def State.abortPath (cause : AbortCause) (s : State) : State :=
  let t := (s.setSeq { s.seq with
    activity := .abortPath, subStep := none, rinseWater := none, abortCause := some cause }).blowerStop
  let u := t.requestMoves .sequencer .closedEnd allValves
  (if u.anyFaulted allValves then u.causeFault else u).abortProgress

/-! ## Phase entry (R115) -/

/-- Step 4 and the end of an entry: the blower runs as the pattern has it, RUNNING from phase elapsed 0 (R115). -/
def State.entryComplete (a : Activity) (s : State) : State :=
  let t := match phaseBlower s.seq.airSkipped a with
    | .pulsed => s.blowerPulsed
    | .continuous => s.blowerContinuous
    | .stopped | .pulseEnded => s
  t.setSeq { t.seq with
    subStep := some .running, phaseElapsed := 0, rinseWater := if a = .rinse then some .flowing else none }

/-- OPENING ends when every open has completed; AIR closing after a blower fault is waited for with the opens (R115,
R119). `done` is the test the phase makes at the completion of its entry. -/
def State.entryOpened (a : Activity) (done : State → State) (s : State) : State :=
  if s.waits .sequencer (if a = .airWater then [.drn, .ww, .air] else phaseOpens s.seq.airSkipped a) then s
  else done (s.entryComplete a)

/-- The OPENING step of an entry (R115). -/
def State.entryOpening (a : Activity) (done : State → State) (s : State) : State :=
  let vs := phaseOpens s.seq.airSkipped a
  let t := (s.setSeq { s.seq with subStep := some .opening }).requestMoves .sequencer .openEnd vs
  if t.anyFaulted vs then t.abortPath .fault else t.entryOpened a done

/-- CLOSING ends when every close has completed (R115). -/
def State.entryClosed (a : Activity) (done : State → State) (s : State) : State :=
  if s.waits .sequencer (phaseCloses s.seq.airSkipped a) then s else s.entryOpening a done

/-- The entry of a phase: blower stop, CLOSING and, as each step ends, the next (R115). A request met by a valve in
FAULT takes the abort path (R130). -/
def State.enterPhase (a : Activity) (done : State → State) (s : State) : State :=
  let vs := phaseCloses s.seq.airSkipped a
  let t := if phaseBlower s.seq.airSkipped a = .stopped then s.blowerStop else s
  let u := (t.setSeq { t.seq with
    activity := a, subStep := some .closing, phaseElapsed := 0, rinseWater := none }).requestMoves
      .sequencer .closedEnd vs
  if u.anyFaulted vs then u.abortPath .fault else u.entryClosed a done

/-- The sequencer is in a phase and RUNNING. -/
def State.runningIn (a : Activity) (s : State) : Bool := s.seq.activity == a && s.seq.subStep == some .running

/-- CH2 is VALID. -/
def State.levelValid (s : State) : Bool := s.meas.ch2.status == .valid

/-- CH4 is VALID. -/
def State.tankValid (s : State) : Bool := s.meas.ch4.status == .valid

/-- Level-slow is set where CH2 is VALID (R117, R124). -/
def State.markSlow (s : State) : State :=
  s.setSeq { s.seq with levelSlow := s.seq.levelSlow || s.levelValid }

/-! ## REFILL (R124) -/

/-- REFILL ends on bed high with CH2 VALID. -/
def State.refillTest (s : State) : State :=
  if s.runningIn .refill && s.bedHigh && s.levelValid then s.endWash .complete else s

/-- The entry of REFILL. -/
def State.enterRefill (s : State) : State := s.enterPhase .refill State.refillTest

/-! ## RINSE (R121 to R123) -/

/-- RINSE ends with short-rinse set (R121). -/
def State.endRinseShort (s : State) : State := (s.setSeq { s.seq with shortRinse := true }).enterRefill

/-- The rinse is suspended: WW requested closed; with T_susp reached RINSE ends at once (R122). -/
def State.suspendRinse (s : State) : State :=
  let t := (s.setSeq { s.seq with rinseWater := some .suspended }).requestMove .sequencer .closedEnd .ww
  if t.anyFaulted [.ww] then t.abortPath .fault
  else if t.cfg.tSusp ≤ t.seq.suspTotal then t.endRinseShort
  else t

/-- The rinse water is FLOWING again once WW is confirmed open (R123). -/
def State.rinseFlows (s : State) : State :=
  if s.runningIn .rinse && s.seq.rinseWater == some .resuming && s.drive.ww.pos == .opened then
    s.setSeq { s.seq with rinseWater := some .flowing }
  else s

/-- The rinse resumes: RESUMING, WW requested open (R123). -/
def State.resumeRinse (s : State) : State :=
  let t := (s.setSeq { s.seq with rinseWater := some .resuming }).requestMove .sequencer .openEnd .ww
  if t.anyFaulted [.ww] then t.abortPath .fault else t.rinseFlows

/-- The tests of suspension and resumption in RINSE (R122, R123). -/
def State.rinseTest (s : State) : State :=
  if s.runningIn .rinse then
    match s.seq.rinseWater with
    | some .flowing | some .resuming => if s.tankBelowFloor && s.tankValid then s.suspendRinse else s
    | some .suspended => if s.tankAtResume && s.tankValid then s.resumeRinse else s
    | none => s
  else s

/-- The entry of RINSE. -/
def State.enterRinse (s : State) : State := s.enterPhase .rinse State.rinseTest

/-! ## AIR_WATER, AIR, LOWER (R117 to R120) -/

/-- The entry of AIR_WATER. -/
def State.enterAirWater (s : State) : State := s.enterPhase .airWater (fun t => t)

/-- AIR ends: pulsed operation ends and the next phase is entered (R118). Where RINSE's entry turns the blower output off,
the second of that end is kept, since a blower fault of the same second is taken after it (R119, entry 17). -/
def State.endAir (s : State) : State :=
  let t := s.blowerEndPulsed
  if 0 < t.cfg.tAw then t.enterAirWater
  else (if t.drive.blower.output then t.setAirEndStop (some t.now) else t).enterRinse

/-- The entry of AIR. -/
def State.enterAir (s : State) : State := s.enterPhase .air (fun t => t)

/-- LOWER ends on bed low with CH2 VALID (R117). -/
def State.lowerTest (s : State) : State :=
  if s.runningIn .lower && s.bedLow && s.levelValid then s.enterAir else s

/-- The entry of LOWER. -/
def State.enterLower (s : State) : State := s.enterPhase .lower State.lowerTest

/-- Starting a wash (R114). -/
def State.startWash (s : State) : State :=
  let t := (s.setSeq { s.seq with
    airSkipped := false, shortRinse := false, levelSlow := false, washClock := 0, phaseElapsed := 0, blowerOn := 0
    rinseElapsed := 0, suspTotal := 0, abortCause := none }).blowerClear
  t.enterLower

/-! ## Progress and faults -/

/-- What a phase tests at the completion of its entry (R117, R122, R124). -/
def phaseDone : Activity → State → State
  | .lower => State.lowerTest
  | .rinse => State.rinseTest
  | .refill => State.refillTest
  | .air | .airWater | .idle | .abortPath => fun s => s

/-- The wash goes on after a valve's move has completed (R115, R123, R129). -/
def State.washProgress (s : State) : State :=
  match s.seq.activity, s.seq.subStep with
  | .abortPath, _ => s.abortProgress
  | .idle, _ => s
  | a, some .closing => s.entryClosed a (phaseDone a)
  | a, some .opening => s.entryOpened a (phaseDone a)
  | _, some .running => s.rinseFlows
  | _, none => s

/-- A valve fault in a wash (R130). -/
def State.faultInWash (s : State) : State :=
  match s.seq.activity with
  | .idle => s
  | .abortPath => s.causeFault.abortProgress
  | .lower | .air | .airWater | .rinse | .refill => s.abortPath .fault

/-- The AIR valve is requested closed: air is given up in AIR_WATER (R119). -/
def State.giveUpAir (s : State) : State :=
  let t := s.requestMove .sequencer .closedEnd .air
  if t.anyFaulted [.air] then t.abortPath .fault else t

/-- A blower fault reported in WASHING (R119); in RINSE, where only AIR's end taken first with T_aw = 0 lets one be found,
air-skipped alone is set. DESIGN CHOICE (entry 32): in AIR_WATER's CLOSING, where R119 says that no such fault can arise,
AIR is requested closed as in OPENING; in IDLE, LOWER, REFILL, the abort path and AIR before RUNNING, where the output is
off, air-skipped alone is set. -/
def State.blowerFaultInWash (s : State) : State :=
  let t := s.setSeq { s.seq with airSkipped := true }
  match s.seq.activity with
  | .air => if s.seq.subStep = some .running then t.endAir else t
  | .airWater => t.giveUpAir
  | .idle | .lower | .rinse | .refill | .abortPath => t

/-! ## The sequence second (R116) -/

/-- LOWER's second (R117). -/
def State.lowerSecond (s : State) : State :=
  let t := s.setSeq { s.seq with phaseElapsed := min Config.max16 (s.seq.phaseElapsed + 1) }
  if t.bedLow && t.levelValid then t.enterAir
  else if t.cfg.tLower ≤ t.seq.phaseElapsed then t.markSlow.enterAir
  else t

/-- AIR's second (R118). -/
def State.airSecond (s : State) : State :=
  let t := s.setSeq { s.seq with
    phaseElapsed := min Config.max16 (s.seq.phaseElapsed + 1)
    blowerOn := s.seq.blowerOn + s.drive.blower.output.toNat }
  if t.cfg.tAir ≤ t.seq.blowerOn ∨ t.cfg.airMax ≤ t.seq.phaseElapsed then t.endAir else t

/-- AIR_WATER's second (R120). -/
def State.airWaterSecond (s : State) : State :=
  let t := s.setSeq { s.seq with phaseElapsed := min Config.max16 (s.seq.phaseElapsed + 1) }
  if t.cfg.tAw ≤ t.seq.phaseElapsed then t.enterRinse else t

/-- RINSE's second: one count is raised and tested, then the tank (R121 to R123). -/
def State.rinseSecond (s : State) : State :=
  let q := { s.seq with phaseElapsed := min Config.max16 (s.seq.phaseElapsed + 1) }
  match s.seq.rinseWater with
  | some .flowing =>
    let t := s.setSeq { q with rinseElapsed := q.rinseElapsed + 1 }
    if t.cfg.tRinse ≤ t.seq.rinseElapsed then t.enterRefill else t.rinseTest
  | some .suspended | some .resuming =>
    let t := s.setSeq { q with suspTotal := q.suspTotal + 1 }
    if t.cfg.tSusp ≤ t.seq.suspTotal then t.endRinseShort else t.rinseTest
  | none => s.setSeq q

/-- REFILL's second (R124). -/
def State.refillSecond (s : State) : State :=
  let t := s.setSeq { s.seq with phaseElapsed := min Config.max16 (s.seq.phaseElapsed + 1) }
  if t.bedHigh && t.levelValid then t.endWash .complete
  else if t.cfg.tRefill ≤ t.seq.phaseElapsed then t.markSlow.endWash .complete
  else t

/-- The wash clock is raised, saturating (R114, R116). -/
def State.clockSecond (s : State) : State :=
  s.setSeq { s.seq with washClock := min Config.max16 (s.seq.washClock + 1) }

/-- A sequence second (R116). -/
def State.sequenceSteps (s : State) : State :=
  if s.seq.activity = .idle then s
  else
    let t := s.clockSecond
    match t.seq.activity, t.seq.subStep with
    | .lower, some .running => t.lowerSecond
    | .air, some .running => t.airSecond
    | .airWater, some .running => t.airWaterSecond
    | .rinse, some .running => t.rinseSecond
    | .refill, some .running => t.refillSecond
    | _, _ => t

end Sys2Proof.Machine
end

