-- ==== Sys2Proof/Machine/Events.lean ====
section
/-! DEFINITION. What the blocks make of the drive unit's news: completions and fault reports (R151), switch changes
(R147, R149, R150, R152), the drive second (R147, R148, R155, R156), RETURN's clearing of faults (R153), and of the
measurement unit's: samples and their limit conditions (R3, R15). -/

namespace Sys2Proof.Machine

/-! ## Completions and reports -/

/-- The blocks that wait on moves go on after a move has ended: recovery, ripening or the wash (R167, R136, R115). -/
def State.progress (s : State) : State :=
  match s.rot.service with
  | .start => s.recoveryProgress
  | .washing => s.washProgress
  | .ripening => s.ripeningProgress
  | .filtering | .queued | .claiming | .standby | .isolated => s

/-- A move has completed (R147). -/
def State.moveCompleted (v : Valve) (s : State) : State := (s.completeMove v).progress

/-- The report of a valve's entry to FAULT goes to the block of R151; a ripening goes on where the fault does not
isolate (R136). -/
def State.reportFault (v : Valve) (s : State) : State :=
  match s.rot.service with
  | .start => s.recoveryProgress
  | .washing => s.faultInWash
  | .ripening =>
    let t := s.faultOutsideWash v
    if t.rot.service = .ripening then t.ripeningProgress else t
  | .filtering | .queued | .claiming | .standby | .isolated => s.faultOutsideWash v

/-- A valve enters FAULT and the fault is reported (R147, R149 to R151). -/
def State.valveFaults (v : Valve) (kind : FaultKind) (s : State) : State := (s.faultValve v kind).reportFault v

/-- The loss of the at-rest switch (R150). -/
def State.driftLoss (v : Valve) (e : ValveEnd) (s : State) : State :=
  if (s.valve v).secondLoss s.now then s.valveFaults v .drift else s.redriveValve v e

/-- The valve is at rest at this end with its commanded target there: supervised for drift (R150). -/
def State.supervised (v : Valve) (s : State) : Option ValveEnd :=
  match (s.valve v).pos.restEnd with
  | some e => if (s.valve v).commanded = some e then some e else none
  | none => none

/-! ## Switch changes -/

/-- From RELEASE on: the target switch of a driven valve completes its move (R147), the loss of a supervised valve's
at-rest switch is drift (R150). DESIGN CHOICE (entry 29): the loss is seen by level, so a switch lost while the valve
was unsupervised is drift at the next change of either switch once the valve is supervised again. -/
def State.switchWhileDriving (v : Valve) (s : State) : State :=
  if s.targetMade v then s.moveCompleted v
  else
    match s.supervised v with
    | some e => if (s.switches v).at e then s else s.driftLoss v e
    | none => s

/-- What the drive unit makes of a valve's switches after a change (R147, R149, R150, R152). DESIGN CHOICE (entry 28):
from SURVEY to RELEASE the position of an UNKNOWN valve follows its switches as that of a CLOSED or OPEN one does. -/
def State.switchChanged (v : Valve) (s : State) : State :=
  if !s.surveyed || (s.valve v).pos == .fault then s
  else if (s.switches v).closedMade && (s.switches v).openMade then s.valveFaults v .feedback
  else if !s.released then s.setValve v ((s.valve v).readPosition (s.switches v))
  else s.switchWhileDriving v

/-- The end whose switch a TARGET_SWITCH_MADE names: where the valve is moving to, or else its commanded target. -/
def ValveRec.targetEnd (r : ValveRec) : Option ValveEnd :=
  match r.pos.movingTo with
  | some e => some e
  | none => r.commanded

/-- The levels of a valve at an end of its travel. -/
def endSwitches : ValveEnd → Switches
  | .openEnd => ⟨false, true⟩
  | .closedEnd => ⟨true, false⟩

/-- The target switch is made and the move completes (R147): the valve is at its target and its other switch released,
since both made would be R149's fault and no completion. DESIGN CHOICE (entry 23): the levels of both switches. -/
def State.targetSwitch (v : Valve) (s : State) : State :=
  match (s.valve v).targetEnd with
  | some e => (s.setSwitches v (endSwitches e)).switchChanged v
  | none => s

/-- The at-rest switch of a supervised valve is lost (R150). -/
def State.loseRest (v : Valve) (s : State) : State :=
  match s.supervised v with
  | some e =>
    if s.released then (s.setSwitches v ((s.switches v).with e false)).switchChanged v else s
  | none => s

/-! ## The drive second -/

/-- A pause ends: the new coil is energized; a target switch already made completes the move (R148). -/
def State.endPause (v : Valve) (s : State) : State :=
  if (s.valve v).drive = .pause then
    let t := s.setValve v (s.valve v).second
    if t.targetMade v then t.moveCompleted v else t
  else s

/-- A driven valve whose travel time has run out faults (R147, R150). -/
def State.timeOut (v : Valve) (s : State) : State :=
  if s.travelOut v then s.valveFaults v (s.valve v).timeoutKind else s

/-- A driven valve whose target switch reads made completes (R147, R148). -/
def State.completeMade (v : Valve) (s : State) : State := if s.targetMade v then s.moveCompleted v else s

/-- The blower faults: in WASHING the wash sequencer takes the report (R119, R156). -/
def State.blowerFaults (s : State) : State := if s.rot.service = .washing then s.blowerFaultInWash else s

/-- The feedback check of a drive second (R156). -/
def State.feedbackSecond (s : State) : State :=
  let c := s.drive.blower.checkFeedback s.pins.pressure s.airEndedNow
  if c.2 then (s.setBlower c.1).blowerFaults else s.setBlower c.1

/-- The timers and pauses of all valves (R147, R148). -/
def State.valveSeconds (s : State) : State :=
  allValves.foldl (fun (t : State) v => t.setValve v (t.valve v).second) s

/-- A drive second (R147): timers and pauses, then completions, then timeouts, then the blower's feedback, then its
pulses. DESIGN CHOICE (entry 18): this order; so a drive begun with its target switch made completes here with a capture
of 1 (entry 27). -/
def State.driveSteps (s : State) : State :=
  let a := s.valveSeconds
  let b := allValves.foldl (fun (t : State) v => t.completeMade v) a
  let c := allValves.foldl (fun (t : State) v => t.timeOut v) b
  c.feedbackSecond.pulseSecond

/-- A change of the pressure switch (R156). FREE VALUE (entry 17): told after AIR's end with T_aw = 0 in the second of
that end, a release is a fault that R119 still takes, or the end of an on-period, which R156 makes none. -/
def State.pressureChanged (made : Bool) (s : State) : State :=
  let t := { s with pins := { s.pins with pressure := made } }
  let b := t.drive.blower
  if b.output then
    if made then t.setBlower b.see
    else if b.feedbackSeen then (t.setBlower b.faulted).blowerFaults
    else t
  else if !made && b.feedbackSeen && t.airEndedNow && Config.releaseBeforeStop t.now then
    (t.setBlower b.faulted).blowerFaults
  else t

/-! ## RETURN (R49, R153) -/

/-- A valve left in FAULT by the clear request is reported anew for the state just entered (R153). -/
def State.reportLeft (v : Valve) (s : State) : State :=
  if (s.valve v).pos = .fault then s.faultOutsideWash v else s

/-- RETURN taken in STANDBY or ISOLATED (R49): the ripening begins at the moment of the entry to RIPENING (R135).
DEDUCED (entry 19): faults that remain are reported after its requests (R153) and before CLOSING can end, so that nothing
is requested open behind a fault of EFF, INF or FTW (R136). -/
def State.returnToService (s : State) : State :=
  let t := ({ s with
      rot := { s.rot with held := false, recovery := false, ripenFail := false }
      cond := { s.cond with shortRun := false } }).clearFaults
  let u := (t.changeState .ripening).startRipening
  let w := allValves.foldl (fun (x : State) v => x.reportLeft v) u
  if w.rot.service = .ripening then w.ripeningClosed else w

/-! ## Samples (R3, R15) -/

/-- A channel entered FAULT between two states. -/
def enteredFault (ch : Channel) (before after : State) : Bool :=
  (before.meas.get ch).status != .fault && (after.meas.get ch).status == .fault

/-- CH1's news: the decision value follows (R11), and an entry to FAULT reaches the ripening (R139). -/
def State.turbidityNews (s before : State) : State :=
  let t := s.followDecision
  if enteredFault .ch1 before s then t.ripeningChannelLost else t

/-- CH2's news: a change of bed low or bed high reaches the wash (R15, R117, R124). -/
def State.levelNews (s before : State) : State :=
  let t := if s.bedLow != before.bedLow then s.lowerTest else s
  if t.bedHigh != before.bedHigh then t.refillTest else t

/-- A rinse SUSPENDED in RINSE. -/
def State.rinseSuspended (s : State) : Bool := s.runningIn .rinse && s.seq.rinseWater == some .suspended

/-- CH4's news: a change of tank below floor or tank at resume, or an entry to FAULT, reaches the rinse (R15, R122,
R123). -/
def State.tankNews (s before : State) : State :=
  if enteredFault .ch4 before s then if s.rinseSuspended then s.resumeRinse else s
  else if s.tankBelowFloor != before.tankBelowFloor || s.tankAtResume != before.tankAtResume then s.rinseTest
  else s

/-- What the consumers of a channel make of its sample. -/
def State.channelNews (ch : Channel) (s before : State) : State :=
  match ch with
  | .ch0 | .ch3 => s
  | .ch1 => s.turbidityNews before
  | .ch2 => s.levelNews before
  | .ch4 => s.tankNews before

/-- A sample of a channel arrives (R3); scanning may end INPUTS with it (R17). -/
def State.takeSample (ch : Channel) (code : Nat) (s : State) : State :=
  if s.scanning then
    let t := s.setChannel ch ((s.meas.get ch).take (s.cfg.lo ch) (s.cfg.hi ch) code)
    (t.channelNews ch s).endInputs
  else s

/-- Settling expires: the decision value follows again (R13). -/
def State.settlingExpires (s : State) : State :=
  ({ s with meas := { s.meas with settling := none } }).followDecision

end Sys2Proof.Machine
end

