-- ==== Sys2Proof/Machine/Panel.lean ====
section
/-! DEFINITION. The data of the read answers: READ-STATION (R177), READ-PEER and READ-CONFIG (R178), laid out by R183.
DESIGN CHOICE (entry 12): the order of the values inside a row of R177 where its cited rules leave it, and the widths
that R183's rule gives. -/

namespace Sys2Proof.Machine

/-- Row 1 of R177: the start-up controller's stage, station number and config-fault index. -/
def State.startupData (s : State) : List Byte :=
  natBytes 1 (stagePlace s.startup.stage) ++ optBytes 1 s.startup.number ++ optBytes 1 s.startup.faultIndex

/-- The service state code as the panel sees it: CONFIG-FAULT in that stage (R37, R179). -/
def State.panelState (s : State) : Nat :=
  if s.startup.stage = .configFault then 8 else serviceCode s.rot.service

/-- Row 2: the station record of R36, the effective hold and the flags word. DESIGN CHOICE (entry 12): the deferred
TAKE-OUT and WASH-NOW, "Present or absent" in R36, are given as flags, present 1 and absent 0, and not by their place in
that list or by the pattern of absence; the effective hold, a truth with no record of its own, is a flag too. -/
def State.rotationData (s : State) : List Byte :=
  natBytes 1 s.panelState ++ flagByte s.rot.held ++ flagByte s.rot.manual ++ flagByte s.rot.recovery
    ++ flagByte s.rot.holdAsserted ++ flagByte s.rot.deferredTakeOut ++ flagByte s.rot.deferredWashNow
    ++ flagByte s.effectiveHold ++ optFlagsWord (some s.flagsWord)

/-- Row 3: the claims, in the order of R111. -/
def State.claimData (s : State) : List Byte :=
  natBytes 1 (reasonCode s.rot.lastRefusal) ++ optBytes 2 s.rot.predictedRate ++ natBytes 2 s.rot.serial
    ++ flagByte s.rot.outstanding.isSome ++ optBytes 2 (s.rot.claimed.map Claimed.urgency)
    ++ optBytes 3 (s.rot.claimed.map Claimed.runTime) ++ optFlagByte (s.rot.claimFlags.map ClaimFlags.held)
    ++ optFlagByte (s.rot.claimFlags.map ClaimFlags.manual)
    ++ optBytes 1 (s.rot.settleDeadline.map (fun d => d - s.now)) ++ flagByte s.rot.oversub

/-- Row 4: the condition unit. DESIGN CHOICE (entry 12): the closed window, "In force, or not in force" in R18, is given
as a flag, in force 1 and not in force 0, and not by its place in that list. -/
def State.conditionData (s : State) : List Byte :=
  natBytes 2 s.cond.urgency ++ natBytes 2 s.cond.cH ++ natBytes 2 s.cond.cT ++ natBytes 2 s.cond.cU
    ++ natBytes 3 s.cond.runTime ++ flagByte s.cond.closedWindow ++ flagByte s.cond.rtEstimated
    ++ flagByte s.cond.shortRun

/-- One channel's status and value (R16). -/
def ChannelRec.data (r : ChannelRec) : List Byte := natBytes 1 (channelStatusPlace r.status) ++ optBytes 2 r.filtered

/-- Row 5: the measurement unit. -/
def State.measurementData (s : State) : List Byte :=
  s.meas.ch0.data ++ s.meas.ch1.data ++ s.meas.ch2.data ++ s.meas.ch3.data ++ s.meas.ch4.data
    ++ optBytes 1 s.meas.settling ++ optBytes 2 s.meas.decision

/-- Row 6: the peer table's counts and sums, and the peer part of the hold, a flag (R89; entry 12). -/
def State.peerData (s : State) : List Byte :=
  natBytes 1 s.occupyingPeers ++ natBytes 1 s.aheadPeers ++ natBytes 1 s.nOn ++ natBytes 3 s.sumFlow
    ++ flagByte s.peerHold

/-- Row 7: the link controller's flags. -/
def State.linkData (s : State) : List Byte := flagByte s.link.linkFault ++ flagByte s.link.dupAddress

/-- A value offered in one activity (R133). In START and CONFIG-FAULT the record shows its start value (R177, R112).
DEDUCED (entry 30): in the seven service states the value is absent outside its activity. -/
def State.onlyIn (s : State) (a : Activity) (n : Nat) : Option Nat :=
  if s.seq.activity = a ∨ s.rot.service = .start then some n else none

/-- Row 8: the wash sequencer, in the order of R133. -/
def State.washData (s : State) : List Byte :=
  natBytes 1 (activityCode s.seq.activity) ++ optBytes 1 (s.seq.subStep.map subStepPlace)
    ++ natBytes 3 s.seq.phaseElapsed ++ optBytes 2 (s.onlyIn .air s.seq.blowerOn)
    ++ optBytes 2 (s.onlyIn .rinse s.seq.rinseElapsed) ++ optBytes 2 (s.onlyIn .rinse s.seq.suspTotal)
    ++ optBytes 1 (s.seq.rinseWater.map rinseWaterPlace) ++ natBytes 3 s.seq.washClock
    ++ optBytes 1 (s.seq.abortCause.map abortCausePlace) ++ flagByte s.seq.airSkipped ++ flagByte s.seq.shortRinse
    ++ flagByte s.seq.levelSlow ++ natBytes 3 s.boundNow ++ natBytes 3 s.seq.fullBound

/-- Row 9: the ripening, in the order of R143. -/
def State.ripeningData (s : State) : List Byte :=
  natBytes 1 (ripeningStepPlace s.rip.step) ++ natBytes 2 s.rip.elapsed ++ natBytes 2 s.rip.hold
    ++ optBytes 1 (s.rip.basis.map basisPlace) ++ flagByte s.rip.unverified

/-- One valve's values, in the order of R157. -/
def ValveRec.data (r : ValveRec) : List Byte :=
  natBytes 1 (posPlace r.pos) ++ optBytes 1 (r.commanded.map valveEndPlace) ++ optBytes 1 (r.faultKind.map faultKindPlace)
    ++ optBytes 1 r.lastTravel ++ flagByte r.slow

/-- The blower's values, in the order of R157. DESIGN CHOICE (entry 12): the output, "On or off" in R154, is given as a
flag, on 1 and off 0, and not by its place in that list. -/
def BlowerRec.data (b : BlowerRec) : List Byte :=
  natBytes 1 (blowerModePlace b.mode) ++ flagByte b.output ++ optFlagByte (b.pulse.map Pulse.on)
    ++ optBytes 1 (b.pulse.map Pulse.elapsed) ++ flagByte b.feedbackSeen ++ flagByte b.fault

/-- Row 10: the drive unit. -/
def State.driveData (s : State) : List Byte :=
  s.drive.inf.data ++ s.drive.eff.data ++ s.drive.drn.data ++ s.drive.ww.data ++ s.drive.air.data
    ++ s.drive.ftw.data ++ flagByte s.drive.valveFault ++ s.drive.blower.data

/-- The data of READ-STATION (R177, R183). -/
def State.stationData (s : State) : List Byte :=
  s.startupData ++ s.rotationData ++ s.claimData ++ s.conditionData ++ s.measurementData ++ s.peerData
    ++ s.linkData ++ s.washData ++ s.ripeningData ++ s.driveData

/-- Whether an entry outranks the own station: not applicable unless both have a rank (R89). -/
def State.outranksOffer (s : State) (e : PeerEntry) : Option Bool :=
  if s.ownRank.isSome && e.rank.isSome then some (s.outranks e) else none

/-- The fields of R75 in the order of its table, then occupies and outranks (R183). FREE VALUE (entry 11): the width of
occupancy-until. DESIGN CHOICE (entry 31): one too large for that width shows its low bytes. -/
def State.entryData (s : State) (e : PeerEntry) : List Byte :=
  natBytes 1 (presencePlace e.presence) ++ natBytes 2 (min 65534 (s.now - e.lastHeard)) ++ optBytes 1 e.senderS
    ++ natBytes 1 (serviceCode e.state) ++ optFlagsWord e.flags ++ natBytes 2 e.urgency ++ natBytes 3 e.runTime
    ++ optBytes 3 e.flow ++ optBytes Config.stationTimeBytes e.occupancyUntil
    ++ optBytes 2 (e.claim.bind PeerClaim.serial) ++ optBytes 2 (e.claim.map PeerClaim.urgency)
    ++ optBytes 3 (e.claim.map PeerClaim.runTime) ++ optFlagByte (e.claim.map PeerClaim.held)
    ++ optFlagByte (e.claim.map PeerClaim.manual) ++ flagByte e.occupying ++ optFlagByte (s.outranksOffer e)

/-- The data of READ-PEER n (R183). -/
def State.peerAnswer (n : Nat) (s : State) : List Byte :=
  match s.peer n with
  | some e => [1] ++ s.entryData e
  | none => [0]

/-- Whether bytes 0..95 of the memory equal the working copy, absent where there is none (R178). -/
def State.recordMatches (s : State) : Option Bool :=
  s.startup.working.map (fun w => s.mem.record == w.bytes)

/-- The data of READ-CONFIG (R178, R183). -/
def State.configData (s : State) : List Byte :=
  s.mem.record ++ s.mem.storedCrc ++ flagByte s.mem.crcMatches ++ optFlagByte s.recordMatches
    ++ flagByte s.startup.locked

end Sys2Proof.Machine
end

