-- ==== Sys2Proof/Machine/Port.lean ====
section
/-! DEFINITION. The service port: arrival (R174), screening and the owners' answers (R175), the order of answers
(R174), the configuration requests (R168 to R170) and the assembly of characters (R71, R173). -/

namespace Sys2Proof.Machine

/-! ## The owners (R47 to R52, R84, R128, R168 to R170) -/

/-- An owner's answer with the state it leaves; no answer yet where a memory write must end first (R175). -/
abbrev Owned := State × Option Reply

/-- The answer REFUSED with this reason, nothing changed. -/
def State.refuse (why : Refuse) (s : State) : Owned := (s, some (.refused why))

/-- The answer ACCEPTED. -/
def State.accept (s : State) : Owned := (s, some .accepted)

/-- WASH-NOW (R47, R51). -/
def State.ownWashNow (s : State) : Owned :=
  match s.rot.service with
  | .filtering => (({ s with rot := { s.rot with manual := true } }).changeState .queued).accept
  | .queued => ({ s with rot := { s.rot with manual := true } }).updateUrgency.accept
  | .ripening => ({ s with rot := { s.rot with deferredWashNow := true } }, some .acceptedDeferred)
  | .start | .claiming | .washing | .standby | .isolated => s.refuse .state

/-- TAKE-OUT (R48, R51). -/
def State.ownTakeOut (s : State) : Owned :=
  match s.rot.service with
  | .filtering | .queued | .claiming | .ripening => (s.isolateTo .standby).accept
  | .isolated => (s.changeState .standby).accept
  | .standby => s.accept
  | .washing => ({ s with rot := { s.rot with deferredTakeOut := true } }, some .acceptedDeferred)
  | .start => s.refuse .state

/-- RETURN (R49). -/
def State.ownReturn (s : State) : Owned :=
  match s.rot.service with
  | .standby | .isolated => s.returnToService.accept
  | .start | .filtering | .queued | .claiming | .washing | .ripening => s.refuse .state

/-- ABORT taken by the wash sequencer (R128): nothing changes in ABORT-PATH. -/
def State.abortWash (s : State) : State :=
  match s.seq.activity with
  | .abortPath | .idle => s
  | .lower | .air | .airWater | .rinse | .refill => s.abortPath .operator

/-- ABORT (R50, R128). -/
def State.ownAbort (s : State) : Owned :=
  if s.rot.service = .washing then s.abortWash.accept else s.refuse .state

/-- The hold-asserted flag takes a value: a change causes a STATUS, and the effective hold may change (R52 to R54). -/
def State.assertHold (on : Bool) (s : State) : State :=
  if s.rot.holdAsserted = on then s
  else (({ s with rot := { s.rot with holdAsserted := on } }).requestStatus).holdEvent s.effectiveHold

/-- HOLD (R52). -/
def State.ownHold (s : State) : Owned :=
  if s.rot.service = .start then s.refuse .state else (s.assertHold true).accept

/-- RESUME: OK with whether the effective hold still stands from peers (R52, R183). -/
def State.ownResume (s : State) : Owned :=
  if s.rot.service = .start then s.refuse .state
  else (s.assertHold false, some (.ok (flagByte s.peerHold)))

/-- FORGET n (R84). -/
def State.ownForget (n : Nat) (s : State) : Owned :=
  if forgetAllowed (s.peer n) then ({ s with peers := dropPeer n s.peers }).accept else s.refuse .state

/-- RESTART: accepted outside WASHING, its start-up following the answer (R170). -/
def State.ownRestart (s : State) : Owned := if s.rot.service = .washing then s.refuse .state else s.accept

/-- WRITE-CONFIG is taken in CONFIG-FAULT, and in RUNNING with STANDBY (R168). -/
def State.writable (s : State) : Bool :=
  s.startup.stage == .configFault || (s.startup.stage == .running && s.rot.service == .standby)

/-- The memory write takes a value. -/
def State.setMemWrite (w : MemWrite) (s : State) : State := { s with startup := { s.startup with memWrite := w } }

/-- WRITE-CONFIG: the lock before the state; the answer waits for the write (R168). -/
def State.ownWriteConfig (s : State) : Owned :=
  if s.startup.locked then s.refuse .locked
  else if s.writable then (s.setMemWrite .record, none)
  else s.refuse .state

/-- LOCK-CONFIG (R169). -/
def State.ownLockConfig (s : State) : Owned :=
  if s.startup.locked then s.refuse .locked else (s.setMemWrite .lock, none)

/-- The owner takes a request and forms its answer (R175). -/
def State.own (k : ReqKind) (s : State) : Owned :=
  match k with
  | .readStation => (s, some (.ok s.stationData))
  | .readPeer n => (s, some (.ok (s.peerAnswer n.toNat)))
  | .readConfig => (s, some (.ok s.configData))
  | .washNow => s.ownWashNow
  | .takeOut => s.ownTakeOut
  | .returnFilter => s.ownReturn
  | .abort => s.ownAbort
  | .hold => s.ownHold
  | .resume => s.ownResume
  | .forget n => s.ownForget n.toNat
  | .restart => s.ownRestart
  | .writeConfig _ => s.ownWriteConfig
  | .lockConfig => s.ownLockConfig

/-! ## Screening (R175) -/

/-- The five requests answered in CONFIG-FAULT (R163, R175). -/
def ReqKind.inConfigFault : ReqKind → Bool
  | .readStation | .readConfig | .writeConfig _ | .lockConfig | .restart => true
  | .readPeer _ | .washNow | .takeOut | .returnFilter | .abort | .hold | .resume | .forget _ => false

/-- The station number that READ-PEER and FORGET carry. -/
def ReqKind.station : ReqKind → Option Nat
  | .readPeer n | .forget n => some n.toNat
  | .readStation | .readConfig | .washNow | .takeOut | .returnFilter | .abort | .hold | .resume | .restart
  | .writeConfig _ | .lockConfig => none

/-- The first refusal that the screening finds (R175). -/
def State.screen (k : ReqKind) (s : State) : Option Refuse :=
  if s.startup.stage = .configFault ∧ !k.inConfigFault then some .fault
  else if k.station.any (fun n => s.cfg.nG ≤ n || n == s.ownNumber) then some .range
  else none

/-- The screened request's effect and answer (R175). -/
def State.answerTo (k : ReqKind) (s : State) : Owned :=
  match s.screen k with
  | some why => s.refuse why
  | none => s.own k

/-! ## The port's record (R171, R174) -/

/-- Setting the port's record. -/
def State.setPort (p : Port) (s : State) : State := { s with port := p }

/-- A request becomes the request in processing and is handled (R174, R175). -/
def State.handle (r : Request) (s : State) : State :=
  let t := (s.setPort { s.port with processing := some r }).answerTo r.kind
  t.1.setPort { t.1.port with answer := t.2.map (fun a => a.toAnswer r) }

/-- A refusal is owed: at most 4, and beyond them the request is dropped (R174). -/
def State.owe (r : Request) (s : State) : State :=
  if s.port.owed.length < Config.owedSize then s.setPort { s.port with owed := s.port.owed ++ [r] } else s

/-- A checked request has arrived (R174). -/
def State.arrive (r : Request) (s : State) : State :=
  if s.startup.stage = .safe then s
  else if s.startup.memWrite ≠ .none ∨ s.port.pendingReq.isSome then s.owe r
  else if s.port.processing.isSome ∨ s.startup.stage = .load ∨ s.port.owed ≠ [] then
    s.setPort { s.port with pendingReq := some r }
  else s.handle r

/-- A whole request with this tag arrives from the panel: its lead character discarded a partial assembly and its last
one left none (R173), and R174 takes it. SAFE discards its characters (R160). -/
def State.panelRequest (k : ReqKind) (tag : BitVec 4) (s : State) : State :=
  if s.startup.stage = .safe then s else (s.setPort { s.port with assembly := none }).arrive ⟨k, tag⟩

/-- Steps 2 and 3 of R174: the oldest owed refusal is answered, or else the pending request is taken. -/
def State.serve (s : State) : State :=
  match s.port.owed with
  | o :: _ => s.setPort { s.port with answer := some ((Reply.refused .busy).toAnswer o) }
  | [] =>
    match s.port.pendingReq with
    | some r => (s.setPort { s.port with pendingReq := none }).handle r
    | none => s

/-! ## Start-up and LOAD with the port (R159, R174) -/

/-- LOAD, and as it ends the port's steps 2 and 3 (R161, R174). -/
def State.loadAndServe (s : State) : State := s.load.serve

/-- Start-up from a cause that is not the reset line: LOAD follows unless the line is asserted (R159). -/
def State.startAfresh (s : State) : State :=
  if s.pins.resetLine then s.startUp else s.startUp.loadAndServe

/-- An accepted RESTART's answer is what is being sent (R170). -/
def State.restartAnswer (s : State) : Bool :=
  s.port.processing.any (fun r => r.kind == .restart) && s.port.answer.any (fun a => a.content == Reply.accepted.content)

/-- The answer to the request in processing has been sent in full (R174); a RESTART's begins start-up (R170). -/
def State.answerSent (s : State) : State :=
  if s.port.processing.isSome && s.port.answer.isSome then
    if s.restartAnswer then s.startAfresh
    else (s.setPort { s.port with processing := none, answer := none }).serve
  else s

/-- An owed refusal has been sent in full (R174). -/
def State.owedSent (s : State) : State :=
  if s.port.processing.isNone && s.port.answer.isSome && !s.port.owed.isEmpty then
    (s.setPort { s.port with owed := s.port.owed.drop 1, answer := none }).serve
  else s

/-! ## Memory writes (R168, R169) -/

/-- The memory after a whole record write: the record, its CRC, zeros in bytes 98..126 (R168). -/
def Memory.writeRecord (m : Memory) (record : List Byte) : Memory :=
  m.writeList 0 (recordImage record ++ List.replicate 29 0)

/-- The ACCEPTED answer to the request in processing is sent (R168, R169). -/
def State.answerAccepted (s : State) : State :=
  match s.port.processing with
  | some r => s.setPort { s.port with answer := some (Reply.accepted.toAnswer r) }
  | none => s

/-- The record write ends (R168). -/
def State.recordWritten (s : State) : State :=
  match s.startup.memWrite, s.port.processing with
  | .record, some ⟨.writeConfig record, _⟩ =>
    (({ s with mem := s.mem.writeRecord record }).setMemWrite .none).answerAccepted
  | _, _ => s

/-- The lock write ends (R169). -/
def State.lockWritten (s : State) : State :=
  if s.startup.memWrite = .lock then
    (({ s with
        mem := s.mem.write 127 Config.lockedCode
        startup := { s.startup with locked := true } }).setMemWrite .none).answerAccepted
  else s

/-! ## Characters of a request (R71, R173) -/

/-- The assembly is at its length character and that character does not suit the request (R173). -/
def requestLengthWrong (bytes : List Byte) : Bool :=
  match bytes with
  | [lead, len] => requestLength (highNibble lead) != some len.toNat
  | _ => false

/-- An assembly of L + 4 characters for a length character L is complete (R71). -/
def assemblyComplete (bytes : List Byte) : Bool :=
  match bytes with
  | _ :: len :: _ => bytes.length == len.toNat + 4
  | _ => false

/-- What an assembly becomes by one character: the characters held after it, or none (R71). -/
def assemble (assembly : Option (List Byte)) (c : LineChar) : Option (List Byte) :=
  if c.framingError then none
  else if c.marker then some [c.data]
  else assembly.map (fun bs => bs ++ [c.data])

/-- A character of a request (R173): a complete good request arrives (R174). -/
def State.requestChar (c : LineChar) (s : State) : State :=
  if s.startup.stage = .safe then s
  else
    match assemble s.port.assembly c with
    | none => s.setPort { s.port with assembly := none }
    | some bs =>
      if requestLengthWrong bs then s.setPort { s.port with assembly := none }
      else if assemblyComplete bs then
        match readRequest bs with
        | some r => (s.setPort { s.port with assembly := none }).arrive r
        | none => s.setPort { s.port with assembly := none }
      else s.setPort { s.port with assembly := some bs }

/-! ## Characters of a frame (R71) -/

/-- The assembly is at its length character and that character is above 12 (R71). -/
def frameLengthWrong (bytes : List Byte) : Bool :=
  match bytes with
  | [_, len] => 12 < len.toNat
  | _ => false

/-- Setting the receive assembly of the link. -/
def State.setAssembly (a : Option (List Byte)) (s : State) : State := { s with link := { s.link with assembly := a } }

/-- A complete frame has been read (R72): the line goes quiet after its last character (R67). -/
def State.frameArrives (bytes : List Byte) (s : State) : State :=
  if s.link.receiver && !s.link.transmitting then
    (({ s with link := s.link.lineQuiet }).setAssembly none).takeFrame bytes
  else s

/-- A character read from the gallery line while the station is not driving it (R71): its start bit stops a running
access wait, which starts again from zero as the line goes quiet after it (R67). -/
def State.lineChar (c : LineChar) (s : State) : State :=
  let t := { s with link := s.link.lineQuiet }
  match assemble s.link.assembly c with
  | none => t.setAssembly none
  | some bs =>
    if frameLengthWrong bs then t.setAssembly none
    else if assemblyComplete bs then (t.setAssembly none).takeFrame bs
    else t.setAssembly (some bs)

/-- Eleven bits read from the gallery line while the receiver is enabled: the own echo while the station is driving it
(R68), else a character of another station (R71). -/
def State.readLine (bits : LineBits) (s : State) : State :=
  if !s.link.receiver then s
  else if s.link.transmitting then s.echo bits
  else
    match readChar bits with
    | some c => s.lineChar c
    | none => s

end Sys2Proof.Machine
end

