-- ==== Sys2Proof/Machine/CmdStartup.lean ====
section
/-! DEFINITION. The commands of start-up: POWER_ON, the reset line, LISTEN_END. An event that cannot occur in the state
that stands changes nothing (entry 3). -/

namespace Sys2Proof.Machine

/-- The outcome of every command of this part. -/
abbrev Outcome := Host.Outcome State Fault Refusal

/-- POWER_ON (R159): start-up begins at SAFE; LOAD follows unless the reset line is asserted. -/
def execPowerOn (s : State) : Outcome := .next s.startAfresh

/-- RESET_LINE_ASSERTED (R159): start-up begins at SAFE and stays there. -/
def execResetLineAsserted (s : State) : Outcome :=
  .next ({ s with pins := { s.pins with resetLine := true } }).startUp

/-- RESET_LINE_RELEASED (R159): SAFE ends and LOAD begins. -/
def execResetLineReleased (s : State) : Outcome :=
  let t := { s with pins := { s.pins with resetLine := false } }
  .next (if t.startup.stage = .safe then t.loadAndServe else t)

/-- LISTEN_END (R165): the second at which LISTEN elapsed reaches 3 × S; RELEASE follows (R166). -/
def execListenEnd (s : State) : Outcome :=
  .next
    (if s.startup.stage = .listen ∧ 3 * s.cfg.s ≤ s.startup.listenElapsed + 1 then
      ({ s with startup := { s.startup with listenElapsed := 3 * s.cfg.s } }).release
    else s)

end Sys2Proof.Machine
end

