-- ==== Sys2Proof/Machine/Clock.lean ====
section
/-! DEFINITION. One second of station time, which passes when no command waits (entry 1): the counts that a row of the
table ends, and the commands due in that second. -/

namespace Sys2Proof.Machine

/-- The ends of what takes less than a second, in the state that stands (entries 1, 2). -/
def State.shortEnds (s : State) : List Instr :=
  (if s.link.accessWait.isSome then [.accessWaitEnd] else [])
    ++ (if s.link.assembly.isSome then [.assemblyQuietTimeout] else [])
    ++ (if s.port.assembly.isSome then [.portQuietTimeout] else [])
    ++ (match s.startup.memWrite with
      | .record => [.recordWriteEnd]
      | .lock => [.lockWriteEnd]
      | .none => [])
    ++ (if s.port.answer.isSome then
        if s.port.processing.isSome then [.answerSent] else [.owedRefusalSent]
      else [])

/-- The settling count reaches its limit in this second (R13). -/
def State.settlingDue (s : State) : Bool := s.meas.settling.any (fun k => Config.settlingTime ≤ k + 1)

/-- The status tick falls in this second (R70). -/
def State.tickDue (s : State) : Bool := s.link.statusTick.any (fun k => s.cfg.s ≤ k + 1)

/-- LISTEN ends in this second (R165). -/
def State.listenDue (s : State) : Bool :=
  s.startup.stage == .listen && decide (3 * s.cfg.s ≤ s.startup.listenElapsed + 1)

/-- The table second's events of one entry (R82, R83). -/
def PeerEntry.due (now : Nat) (e : PeerEntry) : List Instr :=
  (if e.aged now ≠ e.presence then [.peerAging (BitVec.ofNat 4 e.number)] else [])
    ++ (if e.lapses now then [.occupancyLapse (BitVec.ofNat 4 e.number)] else [])

/-- The events of a second of station time, in the model's order (entry 1). DESIGN CHOICE (entry 25): which events the
second has is decided by the stage as it begins, so the second in which LISTEN_END begins RELEASE has no drive second,
and the second in which LISTEN_END or the last recovery close takes the first service state has no condition second. -/
def State.secondEvents (s : State) : List Instr :=
  (if s.seq.activity ≠ .idle then [.sequenceSecond] else [])
    ++ (if s.rip.step = .running then [.ripeningSecond] else [])
    ++ (if s.settlingDue then [.settlingExpiry] else [])
    ++ s.peers.flatMap (PeerEntry.due (s.now + 1))
    ++ (if s.listenDue then [.listenEnd] else [])
    ++ (if s.released then [.driveSecond] else [])
    ++ (if s.startup.stage = .running then [.conditionSecond] else [])
    ++ (if s.tickDue then [.statusTick] else [])
    ++ (if s.rot.settleDeadline.any (· ≤ s.now + 1) then [.settleExpiry] else [])

/-- The counts of seconds that no command raises: station time (R158), settling (R13), the status tick count (R70),
LISTEN elapsed (R165). A count that would reach its limit is left for the command that ends it. -/
def State.countSecond (s : State) : State :=
  { s with
    now := s.now + 1
    meas := { s.meas with settling := if s.settlingDue then s.meas.settling else s.meas.settling.map (· + 1) }
    link := { s.link with statusTick := if s.tickDue then s.link.statusTick else s.link.statusTick.map (· + 1) }
    startup := { s.startup with
      listenElapsed :=
        if s.startup.stage = .listen ∧ !s.listenDue then s.startup.listenElapsed + 1
        else s.startup.listenElapsed } }

/-- A second of station time: in SAFE with the reset line released LOAD begins (R159); else the counts are raised and
the second's commands wait to be taken. DESIGN CHOICE (entry 1): this order. -/
def State.secondPasses (s : State) : State :=
  if s.startup.stage = .safe then if s.pins.resetLine then { s with now := s.now + 1 } else s.loadAndServe
  else { s.countSecond with pending := s.shortEnds ++ s.secondEvents }

end Sys2Proof.Machine
end

