-- ==== Sys2Proof/Machine/CmdDrive.lean ====
section
/-! DEFINITION. The commands of the drive unit: the drive second, its parts named by rows of their own, and the
switches (R147 to R156). A row that names the reaching of a limit is that part of the drive second (entry 3). -/

namespace Sys2Proof.Machine

/-- DRIVE_SECOND (R147): from RELEASE on. -/
def execDriveSecond (s : State) : Outcome := .next (if s.released then s.driveSteps else s)

/-- REVERSAL_PAUSE_END (R148). -/
def execReversalPauseEnd (v : Valve) (s : State) : Outcome := .next (if s.released then s.endPause v else s)

/-- TARGET_SWITCH_MADE (R147). -/
def execTargetSwitchMade (v : Valve) (s : State) : Outcome := .next (s.targetSwitch v)

/-- The travel time of a driven valve runs out at the coming drive second (R147). -/
def State.travelDue (v : Valve) (s : State) : Bool :=
  (s.valve v).drive == .energized && decide (s.cfg.travel v ≤ (s.valve v).timer + 1) && !s.targetMade v

/-- TRAVEL_TIMEOUT (R147, R150). -/
def execTravelTimeout (v : Valve) (s : State) : Outcome :=
  .next
    (if s.released && s.travelDue v then
      (s.setValve v (s.valve v).second).valveFaults v (s.valve v).timeoutKind
    else s)

/-- DRIFT (R150): the at-rest switch of a supervised valve is lost. -/
def execDrift (v : Valve) (s : State) : Outcome := .next (s.loseRest v)

/-- FEEDBACK_FAULT (R149): both switches of a valve are made (entry 23). -/
def execFeedbackFault (v : Valve) (s : State) : Outcome := .next ((s.setSwitches v ⟨true, true⟩).switchChanged v)

/-- LIMIT_SWITCH_CHANGE (R152, and R147, R149, R150 from RELEASE on). -/
def execLimitSwitchChange (v : Valve) (e : ValveEnd) (made : Bool) (s : State) : Outcome :=
  .next ((s.setSwitches v ((s.switches v).with e made)).switchChanged v)

/-- The pulse sub-state reaches the end of a period of this kind at the coming drive second (R155). -/
def State.pulseEnds (on : Bool) (s : State) : Bool :=
  s.drive.blower.pulse.any (fun p => p.on == on && decide ((if on then s.cfg.tOn else s.cfg.tOff) ≤ p.elapsed + 1))

/-- PULSE_ON_END (R155): the output goes off. -/
def execPulseOnEnd (s : State) : Outcome := .next (if s.pulseEnds true then s.pulseSecond else s)

/-- PULSE_OFF_END (R155): the output goes on if AIR is OPEN and no fault stands. -/
def execPulseOffEnd (s : State) : Outcome := .next (if s.pulseEnds false then s.pulseSecond else s)

/-- PRESSURE_SWITCH_CHANGE (R156). -/
def execPressureSwitchChange (made : Bool) (s : State) : Outcome := .next (s.pressureChanged made)

/-- The feedback timer reaches 10 s at the coming drive second: with the output on as it stands (R156), or turned off in
this second by AIR's end (R119, entry 17). -/
def State.feedbackRunsOut (s : State) : Bool :=
  (s.drive.blower.output || s.airEndedNow) && s.drive.blower.runsOut s.pins.pressure

/-- BLOWER_FEEDBACK_TIMEOUT (R156, R119). -/
def execBlowerFeedbackTimeout (s : State) : Outcome := .next (if s.feedbackRunsOut then s.feedbackSecond else s)

end Sys2Proof.Machine
end

