-- ==== Sys2Proof/Machine/CmdLink.lean ====
section
/-! DEFINITION. The commands of the link controller, of the peer table and of the claim protocol's deadline (R67 to
R73, R82, R83, R104). -/

namespace Sys2Proof.Machine

/-- STATUS_TICK (R70): the second at which the count would reach S; a STATUS, then the tick to the rotation
controller. -/
def execStatusTick (s : State) : Outcome :=
  .next
    (if s.link.statusTick.any (fun k => s.cfg.s ≤ k + 1) then
      (({ s with link := { s.link with statusTick := some 0 } }).requestStatus).rotationTick
    else s)

/-- ACCESS_WAIT_END (R67): the line has stayed quiet until a running wait counts the head frame's gap, and an attempt
begins. -/
def execAccessWaitEnd (s : State) : Outcome :=
  .next { s with link := (s.link.quietFor (s.link.gap s.ownNumber)).tryAttempt s.ownNumber }

/-- FRAME_SENT (R69): the characters that had still to echo have matched. -/
def execFrameSent (s : State) : Outcome :=
  .next
    (match s.link.queue with
    | f :: _ => if s.link.transmitting then s.frameSent f else s
    | [] => s)

/-- ATTEMPT_ABANDONED (R68): a character has not echoed as driven. -/
def execAttemptAbandoned (s : State) : Outcome :=
  .next
    (match s.link.queue with
    | f :: _ => if s.link.transmitting then s.attemptAbandoned f else s
    | [] => s)

/-- FRAME_RECEIVED (R72, R73). -/
def execFrameReceived (frame : List Byte) (s : State) : Outcome := .next (s.frameArrives frame)

/-- ASSEMBLY_QUIET_TIMEOUT (R71): the line has been quiet for more than 22 bit times since the last character, which an
access wait that started then has counted (R67); the assembly in progress is discarded. -/
def execAssemblyQuietTimeout (s : State) : Outcome :=
  .next
    (if s.link.assembly.isSome then { s with link := { s.link.quietSince Config.quietLimit with assembly := none } }
    else s)

/-- RECEIVED_CHARACTER (R71, R68). -/
def execReceivedCharacter (bits : LineBits) (s : State) : Outcome := .next (s.readLine bits)

/-- PEER_AGING (R82): the table second ages the entry of one station; a change of the effective hold follows (R88). -/
def execPeerAging (station : BitVec 4) (s : State) : Outcome :=
  .next
    (match s.peer station.toNat with
    | some e =>
      if s.listening then (s.setPeer { e with presence := e.aged s.now }).holdEvent s.effectiveHold else s
    | none => s)

/-- OCCUPANCY_LAPSE (R83): the entry's occupancy-until has passed; it is cleared and the lapse delivered. -/
def execOccupancyLapse (station : BitVec 4) (s : State) : Outcome :=
  .next
    (match s.peer station.toNat with
    | some e =>
      if s.listening && e.lapses s.now then
        ((s.setPeer { e with occupancyUntil := none }).refreshOversub).rotationLapse
      else s
    | none => s)

/-- Settle expiry with every check passed: WASHING, the sequencer started, then the STATUS that carries its phase and
bound (R104, R114). DESIGN CHOICE (entry 22): the STATUS is formed once the entry of LOWER has begun. -/
def State.beginWashing (s : State) : State := s.enterWashing.startWash.requestStatus

/-- Settle expiry: the checks with the predicted rate recorded, then WASHING or a yield (R104, R105). -/
def State.settle (s : State) : State :=
  let t := { s with rot := { s.rot with predictedRate := s.predicted s.settleK } }
  match s.settleFailure with
  | none => t.beginWashing
  | some why => t.yieldFor why

/-- SETTLE_EXPIRY (R104): in CLAIMING, at the settle deadline. -/
def execSettleExpiry (s : State) : Outcome :=
  .next (if s.rot.service = .claiming ∧ s.rot.settleDeadline.any (· ≤ s.now) then s.settle else s)

end Sys2Proof.Machine
end

