-- ==== Sys2Proof/Machine/CmdMeasurement.lean ====
section
/-! DEFINITION. The commands of the measurement unit and of the condition unit, and the delivered triggers (R3, R13,
R19, R29 to R34). -/

namespace Sys2Proof.Machine

/-- SAMPLE (R3): a converter code of one channel. -/
def execSample (ch : Channel) (code : BitVec 12) (s : State) : Outcome := .next (s.takeSample ch code.toNat)

/-- SETTLING_EXPIRY (R13): the second at which the elapsed count would reach 60. -/
def execSettlingExpiry (s : State) : Outcome :=
  .next (if s.meas.settling.any (fun k => Config.settlingTime ≤ k + 1) then s.settlingExpires else s)

/-- CONDITION_SECOND (R19): in RUNNING. -/
def execConditionSecond (s : State) : Outcome :=
  .next (if s.startup.stage = .running then s.conditionSteps else s)

/-- CLOSED_WINDOW_END (R29): the condition second that ends the closed window. -/
def execClosedWindowEnd (s : State) : Outcome :=
  .next (if s.startup.stage = .running ∧ s.advanceRunTime.windowEnds then s.conditionSteps else s)

/-- QUEUE_TRIGGER (R30, R34): FILTERING goes to QUEUED, or the trigger is dropped. -/
def execQueueTrigger (s : State) : Outcome :=
  let t := s.undeliver .queueTrigger
  .next (if s.rot.service = .filtering then t.changeState .queued else t)

/-- What a hard breakthrough does: held, EFF and INF requested closed, FILTERING to QUEUED (R31, R32). With held set it
changes nothing (R38). -/
def State.breakThrough (s : State) : State :=
  if s.rot.held then s
  else
    let t := ({ s with rot := { s.rot with held := true } }).requestMoves .rotation .closedEnd [.eff, .inf]
    if s.rot.service = .filtering then t.changeState .queued else t.updateUrgency

/-- HARD_BREAKTHROUGH (R31, R32, R34). -/
def execHardBreakthrough (s : State) : Outcome :=
  let t := s.undeliver .hardBreakthrough
  .next (if s.rot.service.delivering then t.breakThrough else t)

/-- SHORT_RUN (R33, R34): FILTERING is isolated. -/
def execShortRun (s : State) : Outcome :=
  let t := s.undeliver .shortRun
  .next (if s.rot.service = .filtering then t.isolateTo .isolated else t)

end Sys2Proof.Machine
end

