-- ==== Sys2Proof/WellFormed.lean ====
section
/-! DEFINITION. Which commands can be formed: the bounds that the operand types do not carry by themselves. A command
outside them has a meaning all the same (a record of another length is no good request, a frame of another length is
no complete frame). -/

namespace Sys2Proof

/-- Bytes of the record a WRITE-CONFIG carries (R168, R182). -/
def recordLength : Nat := 96

/-- The longest frame in characters: a STATUS (R57). -/
def maxFrameLength : Nat := 16

/-- The shortest run of characters that completes a frame: lead, length 0, two check characters (R57, R71). -/
def minFrameLength : Nat := 4

/-- A command that the outside can form: a WRITE-CONFIG carries a whole record (R168); a complete frame has 4 to 16
characters (R57, R71). -/
def Instr.wellFormed : Instr → Bool
  | .writeConfig _ record => record.length == recordLength
  | .frameReceived frame => minFrameLength ≤ frame.length && frame.length ≤ maxFrameLength
  | .powerOn | .resetLineAsserted | .resetLineReleased | .sample _ _ | .settlingExpiry | .conditionSecond
  | .closedWindowEnd | .queueTrigger | .hardBreakthrough | .shortRun | .washNow _ | .takeOut _ | .returnFilter _
  | .abort _ | .hold _ | .resume _ | .forget _ _ | .restart _ | .recordWriteEnd | .lockConfig _ | .lockWriteEnd
  | .readStation _ | .readPeer _ _ | .readConfig _ | .answerSent | .portQuietTimeout | .statusTick | .accessWaitEnd
  | .frameSent | .attemptAbandoned | .assemblyQuietTimeout | .peerAging _ | .occupancyLapse _ | .settleExpiry
  | .sequenceSecond | .lowerTimeout | .airOnTimeReached | .airMaxTime | .airWaterEnd | .rinseComplete
  | .suspensionLimit | .refillTimeout | .ripeningSecond | .ripeningSuccess | .ripeningExpiry | .driveSecond
  | .reversalPauseEnd _ | .targetSwitchMade _ | .travelTimeout _ | .drift _ | .feedbackFault _ | .pulseOnEnd
  | .pulseOffEnd | .pressureSwitchChange _ | .blowerFeedbackTimeout | .listenEnd | .receivedCharacter _
  | .requestCharacter _ | .limitSwitchChange _ _ _ | .owedRefusalSent => true

end Sys2Proof
end

