-- ==== Sys2Proof/Machine/CmdPanel.lean ====
section
/-! DEFINITION. The commands of the service port: the thirteen requests as they arrive (R173 to R175), the ends of
answers and of memory writes, the port's quiet line and a character of a request. -/

namespace Sys2Proof.Machine

/-- WASH_NOW arrives (R47, R51). -/
def execWashNow (tag : BitVec 4) (s : State) : Outcome := .next (s.panelRequest .washNow tag)

/-- TAKE_OUT arrives (R48, R51). -/
def execTakeOut (tag : BitVec 4) (s : State) : Outcome := .next (s.panelRequest .takeOut tag)

/-- RETURN arrives (R49). -/
def execReturnFilter (tag : BitVec 4) (s : State) : Outcome := .next (s.panelRequest .returnFilter tag)

/-- ABORT arrives (R50, R128). -/
def execAbort (tag : BitVec 4) (s : State) : Outcome := .next (s.panelRequest .abort tag)

/-- HOLD arrives (R52). -/
def execHold (tag : BitVec 4) (s : State) : Outcome := .next (s.panelRequest .hold tag)

/-- RESUME arrives (R52). -/
def execResume (tag : BitVec 4) (s : State) : Outcome := .next (s.panelRequest .resume tag)

/-- FORGET n arrives (R84). -/
def execForget (tag : BitVec 4) (n : Byte) (s : State) : Outcome := .next (s.panelRequest (.forget n) tag)

/-- RESTART arrives (R170). -/
def execRestart (tag : BitVec 4) (s : State) : Outcome := .next (s.panelRequest .restart tag)

/-- WRITE_CONFIG arrives (R168). A record of another length never completes a good request: its length character
discards the assembly (R173; entry 21). -/
def execWriteConfig (tag : BitVec 4) (record : List Byte) (s : State) : Outcome :=
  .next
    (if record.length = recordLength then s.panelRequest (.writeConfig record) tag
    else if s.startup.stage = .safe then s
    else s.setPort { s.port with assembly := none })

/-- LOCK_CONFIG arrives (R169). -/
def execLockConfig (tag : BitVec 4) (s : State) : Outcome := .next (s.panelRequest .lockConfig tag)

/-- READ_STATION arrives (R177). -/
def execReadStation (tag : BitVec 4) (s : State) : Outcome := .next (s.panelRequest .readStation tag)

/-- READ_PEER n arrives (R178). -/
def execReadPeer (tag : BitVec 4) (n : Byte) (s : State) : Outcome := .next (s.panelRequest (.readPeer n) tag)

/-- READ_CONFIG arrives (R178). -/
def execReadConfig (tag : BitVec 4) (s : State) : Outcome := .next (s.panelRequest .readConfig tag)

/-- RECORD_WRITE_END (R168). -/
def execRecordWriteEnd (s : State) : Outcome := .next s.recordWritten

/-- LOCK_WRITE_END (R169). -/
def execLockWriteEnd (s : State) : Outcome := .next s.lockWritten

/-- ANSWER_SENT (R174, R170). -/
def execAnswerSent (s : State) : Outcome := .next s.answerSent

/-- OWED_REFUSAL_SENT (R174). -/
def execOwedRefusalSent (s : State) : Outcome := .next s.owedSent

/-- PORT_QUIET_TIMEOUT (R173): the partial request is discarded. -/
def execPortQuietTimeout (s : State) : Outcome := .next (s.setPort { s.port with assembly := none })

/-- REQUEST_CHARACTER (R172, R173). -/
def execRequestCharacter (bits : LineBits) (s : State) : Outcome :=
  .next
    (match readChar bits with
    | some c => s.requestChar c
    | none => s)

end Sys2Proof.Machine
end

