-- ==== Sys2Proof/Machine/CmdWash.lean ====
section
/-! DEFINITION. The commands of the wash and of ripening: the sequence second (R116) and the ripening second (R137),
and the rows that name the second at which a limit is reached (R117 to R124, R137, R140). Such a row is that second,
taken whole where the limit is reached by it; elsewhere it changes nothing (entry 3). -/

namespace Sys2Proof.Machine

/-- SEQUENCE_SECOND (R116). -/
def execSequenceSecond (s : State) : Outcome := .next s.sequenceSteps

/-- LOWER's maximum time is reached by the coming sequence second, without the level condition (R117). -/
def State.lowerTimesOut (s : State) : Bool :=
  s.runningIn .lower && !(s.bedLow && s.levelValid) && decide (s.cfg.tLower ≤ s.seq.phaseElapsed + 1)

/-- LOWER_TIMEOUT (R117). -/
def execLowerTimeout (s : State) : Outcome := .next (if s.lowerTimesOut then s.sequenceSteps else s)

/-- Blower-on accumulated reaches T_air by the coming sequence second (R118). -/
def State.airOnTimeDue (s : State) : Bool :=
  s.runningIn .air && decide (s.cfg.tAir ≤ s.seq.blowerOn + s.drive.blower.output.toNat)

/-- AIR_ON_TIME_REACHED (R118). -/
def execAirOnTimeReached (s : State) : Outcome := .next (if s.airOnTimeDue then s.sequenceSteps else s)

/-- AIR's maximum time is reached by the coming sequence second (R118). -/
def State.airMaxDue (s : State) : Bool := s.runningIn .air && decide (s.cfg.airMax ≤ s.seq.phaseElapsed + 1)

/-- AIR_MAX_TIME (R118). -/
def execAirMaxTime (s : State) : Outcome := .next (if s.airMaxDue then s.sequenceSteps else s)

/-- AIR_WATER's time is reached by the coming sequence second (R120). -/
def State.airWaterDue (s : State) : Bool := s.runningIn .airWater && decide (s.cfg.tAw ≤ s.seq.phaseElapsed + 1)

/-- AIR_WATER_END (R120). -/
def execAirWaterEnd (s : State) : Outcome := .next (if s.airWaterDue then s.sequenceSteps else s)

/-- Rinse elapsed reaches T_rinse by the coming sequence second (R121). -/
def State.rinseDue (s : State) : Bool :=
  s.runningIn .rinse && s.seq.rinseWater == some .flowing && decide (s.cfg.tRinse ≤ s.seq.rinseElapsed + 1)

/-- RINSE_COMPLETE (R121). -/
def execRinseComplete (s : State) : Outcome := .next (if s.rinseDue then s.sequenceSteps else s)

/-- Suspension total reaches T_susp by the coming sequence second (R121). -/
def State.suspensionDue (s : State) : Bool :=
  s.runningIn .rinse && (s.seq.rinseWater == some .suspended || s.seq.rinseWater == some .resuming)
    && decide (s.cfg.tSusp ≤ s.seq.suspTotal + 1)

/-- SUSPENSION_LIMIT (R121). -/
def execSuspensionLimit (s : State) : Outcome := .next (if s.suspensionDue then s.sequenceSteps else s)

/-- REFILL's maximum time is reached by the coming sequence second, without the level condition (R124). -/
def State.refillTimesOut (s : State) : Bool :=
  s.runningIn .refill && !(s.bedHigh && s.levelValid) && decide (s.cfg.tRefill ≤ s.seq.phaseElapsed + 1)

/-- REFILL_TIMEOUT (R124). -/
def execRefillTimeout (s : State) : Outcome := .next (if s.refillTimesOut then s.sequenceSteps else s)

/-- RIPENING_SECOND (R137). -/
def execRipeningSecond (s : State) : Outcome :=
  .next (if s.rip.step = .running then s.ripeningSteps else s)

/-- RIPENING_SUCCESS (R137, R140): the ripening second at which the hold timer reaches T_rhold. -/
def execRipeningSuccess (s : State) : Outcome :=
  .next (if s.rip.step = .running ∧ s.ripeningCount.ripenedNow then s.ripeningSteps else s)

/-- RIPENING_EXPIRY (R137): the ripening second at which ripening elapsed reaches T_rmax without success. -/
def execRipeningExpiry (s : State) : Outcome :=
  .next
    (if s.rip.step = .running ∧ !s.ripeningCount.ripenedNow ∧ s.ripeningCount.ripeningExpired then s.ripeningSteps
    else s)

end Sys2Proof.Machine
end

