-- ==== Sys2Proof/Machine/Dispatch.lean ====
section
/-! DEFINITION. The meaning of each command: one arm per constructor, one call of its own meaning. -/

namespace Sys2Proof.Machine

/-- The effect of a command on everything but the queue. -/
def exec (i : Instr) (s : State) : Host.Outcome State Fault Refusal :=
  match i with
  | .powerOn => Sys2Proof.Machine.execPowerOn s
  | .resetLineAsserted => Sys2Proof.Machine.execResetLineAsserted s
  | .resetLineReleased => Sys2Proof.Machine.execResetLineReleased s
  | .sample ch code => Sys2Proof.Machine.execSample ch code s
  | .settlingExpiry => Sys2Proof.Machine.execSettlingExpiry s
  | .conditionSecond => Sys2Proof.Machine.execConditionSecond s
  | .closedWindowEnd => Sys2Proof.Machine.execClosedWindowEnd s
  | .queueTrigger => Sys2Proof.Machine.execQueueTrigger s
  | .hardBreakthrough => Sys2Proof.Machine.execHardBreakthrough s
  | .shortRun => Sys2Proof.Machine.execShortRun s
  | .washNow tag => Sys2Proof.Machine.execWashNow tag s
  | .takeOut tag => Sys2Proof.Machine.execTakeOut tag s
  | .returnFilter tag => Sys2Proof.Machine.execReturnFilter tag s
  | .abort tag => Sys2Proof.Machine.execAbort tag s
  | .hold tag => Sys2Proof.Machine.execHold tag s
  | .resume tag => Sys2Proof.Machine.execResume tag s
  | .forget tag n => Sys2Proof.Machine.execForget tag n s
  | .restart tag => Sys2Proof.Machine.execRestart tag s
  | .writeConfig tag record => Sys2Proof.Machine.execWriteConfig tag record s
  | .recordWriteEnd => Sys2Proof.Machine.execRecordWriteEnd s
  | .lockConfig tag => Sys2Proof.Machine.execLockConfig tag s
  | .lockWriteEnd => Sys2Proof.Machine.execLockWriteEnd s
  | .readStation tag => Sys2Proof.Machine.execReadStation tag s
  | .readPeer tag n => Sys2Proof.Machine.execReadPeer tag n s
  | .readConfig tag => Sys2Proof.Machine.execReadConfig tag s
  | .answerSent => Sys2Proof.Machine.execAnswerSent s
  | .portQuietTimeout => Sys2Proof.Machine.execPortQuietTimeout s
  | .statusTick => Sys2Proof.Machine.execStatusTick s
  | .accessWaitEnd => Sys2Proof.Machine.execAccessWaitEnd s
  | .frameSent => Sys2Proof.Machine.execFrameSent s
  | .attemptAbandoned => Sys2Proof.Machine.execAttemptAbandoned s
  | .frameReceived frame => Sys2Proof.Machine.execFrameReceived frame s
  | .assemblyQuietTimeout => Sys2Proof.Machine.execAssemblyQuietTimeout s
  | .peerAging station => Sys2Proof.Machine.execPeerAging station s
  | .occupancyLapse station => Sys2Proof.Machine.execOccupancyLapse station s
  | .settleExpiry => Sys2Proof.Machine.execSettleExpiry s
  | .sequenceSecond => Sys2Proof.Machine.execSequenceSecond s
  | .lowerTimeout => Sys2Proof.Machine.execLowerTimeout s
  | .airOnTimeReached => Sys2Proof.Machine.execAirOnTimeReached s
  | .airMaxTime => Sys2Proof.Machine.execAirMaxTime s
  | .airWaterEnd => Sys2Proof.Machine.execAirWaterEnd s
  | .rinseComplete => Sys2Proof.Machine.execRinseComplete s
  | .suspensionLimit => Sys2Proof.Machine.execSuspensionLimit s
  | .refillTimeout => Sys2Proof.Machine.execRefillTimeout s
  | .ripeningSecond => Sys2Proof.Machine.execRipeningSecond s
  | .ripeningSuccess => Sys2Proof.Machine.execRipeningSuccess s
  | .ripeningExpiry => Sys2Proof.Machine.execRipeningExpiry s
  | .driveSecond => Sys2Proof.Machine.execDriveSecond s
  | .reversalPauseEnd valve => Sys2Proof.Machine.execReversalPauseEnd valve s
  | .targetSwitchMade valve => Sys2Proof.Machine.execTargetSwitchMade valve s
  | .travelTimeout valve => Sys2Proof.Machine.execTravelTimeout valve s
  | .drift valve => Sys2Proof.Machine.execDrift valve s
  | .feedbackFault valve => Sys2Proof.Machine.execFeedbackFault valve s
  | .pulseOnEnd => Sys2Proof.Machine.execPulseOnEnd s
  | .pulseOffEnd => Sys2Proof.Machine.execPulseOffEnd s
  | .pressureSwitchChange made => Sys2Proof.Machine.execPressureSwitchChange made s
  | .blowerFeedbackTimeout => Sys2Proof.Machine.execBlowerFeedbackTimeout s
  | .listenEnd => Sys2Proof.Machine.execListenEnd s
  | .receivedCharacter bits => Sys2Proof.Machine.execReceivedCharacter bits s
  | .requestCharacter bits => Sys2Proof.Machine.execRequestCharacter bits s
  | .limitSwitchChange valve switch made => Sys2Proof.Machine.execLimitSwitchChange valve switch made s
  | .owedRefusalSent => Sys2Proof.Machine.execOwedRefusalSent s

end Sys2Proof.Machine
end

