-- ==== Sys2Proof/Safety.lean ====
section
/-! DEFINITION. The words that statements about the part are written in: what a safe state is (flags that tell the
truth, the air interlock, a blower and outlets confined to their patterns, a bounded and ordered transmit queue, the
silence of a duplicate address, a canonical memory, a ripening, a wash and a start-up confined to their service states,
delivered triggers that name theirs), what a command of another block leaves alone, what a change of service state tells
and computes, values read from bytes, and the situations that commands are stated in. -/

namespace Sys2Proof.Machine

/-! ## What stays -/

/-- `t` has the memory, station time, peer table, port, command queue, configuration, station number, channel records
and inputs of `s`, the limit switches of the valves apart: what no move request, claim, STATUS, wash or ripening
changes. -/
structure Still (s t : State) : Prop where
  mem : t.mem = s.mem
  now : t.now = s.now
  port : t.port = s.port
  peers : t.peers = s.peers
  freeCount : t.freeCount = s.freeCount
  pending : t.pending = s.pending
  working : t.startup.working = s.startup.working
  number : t.startup.number = s.startup.number
  locked : t.startup.locked = s.startup.locked
  memWrite : t.startup.memWrite = s.startup.memWrite
  faultIndex : t.startup.faultIndex = s.startup.faultIndex
  ch0 : t.meas.ch0 = s.meas.ch0
  ch1 : t.meas.ch1 = s.meas.ch1
  ch2 : t.meas.ch2 = s.meas.ch2
  ch3 : t.meas.ch3 = s.meas.ch3
  ch4 : t.meas.ch4 = s.meas.ch4
  channelFault : t.meas.channelFault = s.meas.channelFault
  straps : t.pins.straps = s.pins.straps
  resetLine : t.pins.resetLine = s.pins.resetLine
  pressure : t.pins.pressure = s.pins.pressure

/-- Every delivered trigger that waits names the service state that stands: one is dropped when the station leaves the
states it names (R34). -/
def State.deliveredNamed (s : State) : Prop := ∀ d ∈ s.delivered, d.trigger.names s.rot.service = true

/-- `t` stands as still as `s`, and of the delivered triggers those still wait that name the service state of `t`: all
of them where it is that of `s` (R34). -/
structure Quiet (s t : State) : Prop extends Still s t where
  delivered : s.deliveredNamed → t.delivered = s.delivered.filter (fun d => d.trigger.names t.rot.service)

/-- A STATUS formed from the values standing in `t` has been requested (R54, R59, R65): the link of `t` is the link of
`s` after that request. -/
def StatusAsked (s t : State) : Prop := t.link = s.link.takeStatus (.status t.statusContent)

/-! ## Safe states -/

/-- The channel-fault flag says whether a channel is in FAULT (R10), the valve-fault flag whether a valve is (R144). -/
def State.flagsTrue (s : State) : Prop :=
  (s.meas.channelFault = true ↔ ∃ ch, (s.meas.get ch).status = .fault)
    ∧ (s.drive.valveFault = true ↔ ∃ v, (s.valve v).pos = .fault)

/-- The blower output is on only while AIR is OPEN and no blower fault stands (R154). -/
def State.airInterlock (s : State) : Prop :=
  s.drive.blower.output = true → (s.valve .air).pos = .opened ∧ s.drive.blower.fault = false

/-- The blower runs, and a mode other than STOPPED stands, only in AIR and AIR_WATER of a wash (R113, R154). -/
def State.blowerConfined (s : State) : Prop :=
  s.drive.blower.output = true ∨ s.drive.blower.mode ≠ .stopped →
    s.rot.service = .washing ∧ (s.seq.activity = .air ∨ s.seq.activity = .airWater)

/-- Where each of the three outlets is commanded open (R41, R113, R115, R136, R140): EFF in FILTERING, QUEUED, CLAIMING
and LOWER, DRN in AIR_WATER and RINSE, FTW in OPENING and RUNNING of a ripening. No two of these stand together. -/
def State.outletsConfined (s : State) : Prop :=
  ((s.valve .eff).commanded = some .openEnd →
      s.rot.service = .filtering ∨ s.rot.service = .queued ∨ s.rot.service = .claiming
        ∨ s.rot.service = .washing ∧ s.seq.activity = .lower)
    ∧ ((s.valve .drn).commanded = some .openEnd →
      s.rot.service = .washing ∧ (s.seq.activity = .airWater ∨ s.seq.activity = .rinse))
    ∧ ((s.valve .ftw).commanded = some .openEnd →
      s.rot.service = .ripening ∧ (s.rip.step = .opening ∨ s.rip.step = .running))

/-- The queue holds at most 4 frames, at most one STATUS and at most one CLAIM (R63); behind the started frame no class
0 frame stands behind a STATUS; only a head frame is started (R64). -/
def Link.ordered (l : Link) : Prop :=
  l.queue.length ≤ 4 ∧ l.queue.countP Frame.isStatus ≤ 1 ∧ l.queue.countP Frame.isClaim ≤ 1
    ∧ l.unstarted.Pairwise (fun f g => f.isStatus = true → g.isStatus = true) ∧ (l.attempt.isSome = true → l.queue ≠ [])

/-- With the duplicate-address flag set nothing waits to be sent and nothing is being sent (R73, R74). -/
def State.silent (s : State) : Prop :=
  s.link.dupAddress = true →
    s.link.queue = [] ∧ s.link.attempt = none ∧ s.link.accessWait = none ∧ s.link.statusDue = false

/-- The memory is in canonical form. -/
def State.memoryCanonical (s : State) : Prop := Memory.wf s.mem

/-- The ripening step is IDLE whenever the service state is not RIPENING (R134). -/
def State.ripeningConfined (s : State) : Prop := s.rip.step ≠ .idle → s.rot.service = .ripening

/-- In every stage but RUNNING the service state is START (R37). -/
def State.startConfined (s : State) : Prop := s.startup.stage ≠ .running → s.rot.service = .start

/-- The wash sequencer stands in IDLE whenever the service state is not WASHING (R112). -/
def State.washConfined (s : State) : Prop := s.seq.activity ≠ .idle → s.rot.service = .washing

/-! ## What a change of service state tells and computes -/

/-- A class 0 frame has been offered, and behind it a STATUS formed from the values standing in `t` requested (R54, R63,
R65): the link of `t` is the link of `s` after both. -/
def ToldBehind (f : Frame) (s t : State) : Prop := t.link = ((s.offer f).link).takeStatus (.status t.statusContent)

/-- The content of a STATUS formed at the change into the service state of `t`, before the requests for valves that the
same change made: the values standing in `t`, and where the flags of `s` tell the truth and its outlets are confined the
flags word too. -/
def ToldOf (c : StatusContent) (s t : State) : Prop :=
  c = { t.statusContent with flags := c.flags } ∧ (s.flagsTrue → s.outletsConfined → c = t.statusContent)

/-- The components and urgency of a delivering state are those of the values standing in it (R24 to R28). -/
def State.urgencyStands (s : State) : Prop :=
  s.cond.cH = (match s.meas.ch0.filtered with
      | none => 0
      | some h => if h ≤ s.cond.baseline then 0
        else min 1000 (1000 * (h - s.cond.baseline) / (s.cfg.hT - s.cond.baseline)))
    ∧ s.cond.cT = (if 4 * s.cond.runTime ≤ 3 * s.cfg.tMax then 0
        else min 1000 (1000 * (4 * s.cond.runTime - 3 * s.cfg.tMax) / s.cfg.tMax))
    ∧ s.cond.cU = (match s.meas.decision with
      | none => 0
      | some u => min 1000 (1000 * u / s.cfg.uT))
    ∧ s.cond.urgency = (if s.rot.held || s.rot.manual then 1000 else max s.cond.cH (max s.cond.cT s.cond.cU))

/-! ## Values in bytes -/

/-- The number in `w` bytes of data from offset `i` on, most significant byte first. -/
def fieldAt (data : List Byte) (i w : Nat) : Nat := bytesNat ((data.drop i).take w)

/-- The data shows an optional value in `w` bytes from offset `i` on: the value where it leaves the all-ones pattern
free, that pattern for absence (R183). -/
def Shows (data : List Byte) (i w : Nat) : Option Nat → Prop
  | some n => n < 256 ^ w - 1 → fieldAt data i w = n
  | none => fieldAt data i w = 256 ^ w - 1

/-! ## Situations -/

/-- No valve stands in FAULT. -/
def State.noValveFault (s : State) : Prop := ∀ v, (s.valve v).pos ≠ .fault

/-- Each valve is at rest where the pattern of a phase has it (R113). -/
def State.inPattern (a : Activity) (s : State) : Prop :=
  ∀ v, (s.valve v).pos = if v ∈ phaseOpens s.seq.airSkipped a then .opened else .closed

/-- The port is idle and LOAD is over: an arrived request becomes the request in processing (R174). -/
def State.portFree (s : State) : Prop :=
  s.startup.stage ≠ .safe ∧ s.startup.stage ≠ .load ∧ s.startup.memWrite = .none ∧ s.port.pendingReq = none
    ∧ s.port.processing = none ∧ s.port.owed = []

/-- The port's record once a whole request from an idle port has been taken and answered (R173, R174, R176). -/
def Port.answering (p : Port) (k : ReqKind) (tag : BitVec 4) (a : Reply) : Port :=
  { p with assembly := none, processing := some ⟨k, tag⟩, answer := some (a.toAnswer ⟨k, tag⟩) }

/-- The command of a request kind with a tag (R182). -/
def ReqKind.command (tag : BitVec 4) : ReqKind → Instr
  | .readStation => .readStation tag
  | .readPeer n => .readPeer tag n
  | .readConfig => .readConfig tag
  | .washNow => .washNow tag
  | .takeOut => .takeOut tag
  | .returnFilter => .returnFilter tag
  | .abort => .abort tag
  | .hold => .hold tag
  | .resume => .resume tag
  | .forget n => .forget tag n
  | .restart => .restart tag
  | .writeConfig record => .writeConfig tag record
  | .lockConfig => .lockConfig tag

/-- A request of a kind can be formed: a WRITE-CONFIG carries 96 bytes (R182). -/
def ReqKind.formed : ReqKind → Prop
  | .writeConfig record => record.length = 96
  | .readStation | .readPeer _ | .readConfig | .washNow | .takeOut | .returnFilter | .abort | .hold | .resume
  | .forget _ | .restart | .lockConfig => True

/-- Field `i` of a record fails and every field before it passes (R162). -/
def failsFirst (number : Nat) (f : Nat → Nat) (i : Nat) : Prop :=
  1 ≤ i ∧ i ≤ 43 ∧ fieldPasses number f i = false ∧ ∀ j, 1 ≤ j → j < i → fieldPasses number f j = true

/-- Every field of a record passes (R162). -/
def allFieldsPass (number : Nat) (f : Nat → Nat) : Prop := ∀ i, 1 ≤ i → i ≤ 43 → fieldPasses number f i = true

/-- The terms of R127: the maximum times of the five phases and the longest their entries take, of which AIR_WATER has
none where T_aw is 0. -/
def Params.longestWash (p : Params) : Nat :=
  p.tLower + (ceilDiv (p.tAir * (p.tOn + p.tOff)) p.tOn + 10) + p.tAw + (p.tRinse + p.tSusp) + p.tRefill
    + (if p.tAw = 0 then 4 else 5) * (2 * (p.travelMax + 1))

/-- What LOAD leaves of a station number and a memory: the lock state, and the config-fault index or the working copy
and the full wash bound (R161, R162, R127). -/
def State.loadedFrom (number : Nat) (m : Memory) (t : State) : Prop :=
  t.mem = m ∧ t.startup.number = some number ∧ (t.startup.locked = true ↔ m.read 127 ≠ 0xFF)
    ∧ (m.storedCrc ≠ crcBytes m.record →
      t.startup.stage = .configFault ∧ t.startup.faultIndex = some 0 ∧ t.startup.working = none)
    ∧ (m.storedCrc = crcBytes m.record → ∀ i, failsFirst number m.field i →
      t.startup.stage = .configFault ∧ t.startup.faultIndex = some i ∧ t.startup.working = none)
    ∧ (m.storedCrc = crcBytes m.record → allFieldsPass number m.field →
      t.startup.stage = .inputs ∧ t.startup.faultIndex = none
        ∧ t.startup.working = some ⟨Params.ofFields m.field, m.record⟩
        ∧ t.seq.fullBound = t.cfg.longestWash)

/-- The station is neither QUEUED nor CLAIMING: no event evaluates admission or tests the yield conditions (R91,
R101). -/
def State.unclaimed (s : State) : Prop := s.rot.service ≠ .queued ∧ s.rot.service ≠ .claiming

/-- Outside WASHING, RIPENING and START no block waits on moves, and outside the states of R44 no valve fault isolates:
STANDBY and ISOLATED. -/
def State.out (s : State) : Prop := s.rot.service = .standby ∨ s.rot.service = .isolated

/-! ## The end of a move -/

/-- The move of a valve toward an end has completed from `s` to `t` (R147, R150, R12): the record stands at its end with
its requests answered and, but for a re-drive, its travel time captured; a completed opening of EFF or FTW has started
settling, and the decision value is as it was. -/
def MoveDone (v : Valve) (e : ValveEnd) (s t : State) : Prop :=
  t.valve v = { s.valve v with
      pos := ValveEnd.atRest e, drive := .idle, redrive := false, waiting := []
      lastTravel := if (s.valve v).redrive then (s.valve v).lastTravel else some (s.valve v).timer
      slow := if (s.valve v).redrive then (s.valve v).slow else decide (4 * s.cfg.travel v < 5 * (s.valve v).timer) }
    ∧ t.meas.settling = (if e = .openEnd ∧ (v = .eff ∨ v = .ftw) then some 0 else s.meas.settling)
    ∧ t.meas.decision = s.meas.decision

/-- The command `c` brings a valve into FAULT with this kind: a drive that reaches its travel time, both switches made, or
the second loss of its at-rest switch (R147, R149, R150). -/
def State.faultsBy (s : State) (v : Valve) (c : Instr) (kind : FaultKind) : Prop :=
  (∃ e, (s.valve v).pos = ValveEnd.moving e ∧ (s.valve v).drive = .energized ∧ (s.switches v).at e = false
      ∧ s.cfg.travel v ≤ (s.valve v).timer + 1 ∧ c = .travelTimeout v
      ∧ kind = if (s.valve v).redrive then .drift else .stuck)
    ∨ ((s.valve v).pos ≠ .fault ∧ c = .feedbackFault v ∧ kind = .feedback)
    ∨ (∃ e at_, (s.valve v).pos = ValveEnd.atRest e ∧ (s.valve v).commanded = some e
      ∧ (s.valve v).lastDrift = some at_ ∧ s.now - at_ < 60 ∧ c = .drift v ∧ kind = .drift)

/-! ## Outcomes of the rotation controller's tests -/

/-- What an evaluation of admission makes of `b` (R92 to R98): the first of the five conditions that fails is the last
refusal reason, and an outstanding CLAIM that is unstarted is withdrawn; when all hold and no CLAIM is outstanding, a
claim is made with the next serial, the current urgency and run time, and its CLAIM is offered (R63, R99). -/
def AdmissionOutcome (b t : State) : Prop :=
  let leaving := if (b.valve .eff).commanded = some .openEnd then 1 else 0
  let left := b.nOn - leaving
  let held := b.rot.holdAsserted = true ∨ b.peerHold = true
  let slots := b.occupyingPeers + b.aheadPeers < b.cfg.w
  let rate := if 0 < left then b.sumFlow * 36 ≤ b.cfg.rMax * b.cfg.area * left else leaving = 0 ∧ b.sumFlow = 0
  let supply := if b.meas.ch4.status = .fault then b.rot.manual = true
    else ∃ v, b.meas.ch4.filtered = some v ∧ b.cfg.lStart ≤ v
  let passes := ¬ held ∧ b.link.dupAddress = false ∧ slots ∧ rate ∧ supply
  let refusedAtOnce := b.link.queue.any Frame.isClaim = true
    ∨ (4 ≤ b.link.queue.length ∧ ∀ f ∈ b.link.unstarted, f.isStatus = false)
  t = { b with
      link := t.link
      rot := { b.rot with
        predictedRate := t.rot.predictedRate, lastRefusal := t.rot.lastRefusal, serial := t.rot.serial
        claimed := t.rot.claimed, outstanding := t.rot.outstanding } }
    ∧ t.rot.predictedRate = (if 0 < left then some (min 9999 (b.sumFlow * 36 / (b.cfg.area * left))) else none)
    ∧ (held → t.rot.lastRefusal = some .hold)
    ∧ (¬ held → b.link.dupAddress = true → t.rot.lastRefusal = some .silent)
    ∧ (¬ held → b.link.dupAddress = false → ¬ slots → t.rot.lastRefusal = some .slots)
    ∧ (¬ held → b.link.dupAddress = false → slots → ¬ rate → t.rot.lastRefusal = some .rate)
    ∧ (¬ held → b.link.dupAddress = false → slots → rate → ¬ supply → t.rot.lastRefusal = some .supply)
    ∧ (¬ passes → t.rot.serial = b.rot.serial
        ∧ (b.rot.outstanding = none →
            t.rot.outstanding = none ∧ t.rot.claimed = b.rot.claimed ∧ t.link = b.link)
        ∧ (∀ k, b.rot.outstanding = some k → b.link.ordered →
            (b.link.unstarted.any Frame.isClaim = true →
                t.rot.outstanding = none ∧ t.rot.claimed = none ∧ t.link.queue.any Frame.isClaim = false)
            ∧ (b.link.unstarted.any Frame.isClaim = false →
                t.rot.outstanding = some k ∧ t.rot.claimed = b.rot.claimed ∧ t.link = b.link)))
    ∧ (passes → ∀ k, b.rot.outstanding = some k → t.rot.lastRefusal = none ∧ t.rot.outstanding = some k
        ∧ t.rot.claimed = b.rot.claimed ∧ t.rot.serial = b.rot.serial ∧ t.link = b.link)
    ∧ (passes → b.rot.outstanding = none → t.rot.serial = (b.rot.serial + 1) % 256
        ∧ (refusedAtOnce → t.rot.lastRefusal = some .silent ∧ t.rot.outstanding = none ∧ t.rot.claimed = none
            ∧ t.link = b.link)
        ∧ (¬ refusedAtOnce → t.rot.lastRefusal = none ∧ t.rot.outstanding = some t.rot.serial
            ∧ t.rot.claimed = some ⟨b.cond.urgency, b.cond.runTime⟩
            ∧ Frame.claim ⟨b.cond.urgency, b.cond.runTime, b.rot.held, b.rot.manual, t.rot.serial,
              2 * b.cfg.s + b.seq.fullBound⟩ ∈ t.link.queue))

/-- What a test of the yield conditions makes of `b` (R101, R102): the first that holds is the reason, a YIELD of the
claim's serial is offered (R63) and the station is QUEUED again, which is told behind it (R54), with urgency brought up
to date (R28); where none holds nothing changes. -/
def YieldOutcome (b t : State) : Prop :=
  let held := b.rot.holdAsserted = true ∨ b.peerHold = true
  let slots := b.washingPeers + b.outrankingClaimants < b.cfg.w
  (¬ held → b.link.dupAddress = false → slots → t = b)
    ∧ (held ∨ b.link.dupAddress = true ∨ ¬ slots →
        Quiet b t ∧ t.drive = b.drive ∧ t.seq = b.seq
          ∧ t.rot = { b.rot with
            service := .queued, claimed := none, claimFlags := none, settleDeadline := none, oversub := false
            lastRefusal := if held then some .hold else if b.link.dupAddress = true then some .silent else some .slots }
          ∧ t.cond = { b.cond with
              urgency := if b.rot.held || b.rot.manual then 1000 else max b.cond.cH (max b.cond.cT b.cond.cU) }
          ∧ ToldBehind (.yield b.rot.serial) b t
          ∧ (b.link.dupAddress = true → t.link = b.link)
          ∧ (b.link.dupAddress = false → b.link.queue.length < 4 → Frame.yield b.rot.serial ∈ t.link.queue))

/-- The link once a whole frame has been read: no assembly, and the wait of a frame that is not started from zero (R67,
R71). -/
def Link.heard (l : Link) : Link := { l.lineQuiet with assembly := none }

/-! ## Runs -/

/-- Commands one after another, stopping at the first that does not answer a next state. -/
def runAll : List Instr → State → Host.Outcome State Fault Refusal
  | [], s => .next s
  | c :: rest, s =>
    match exec c s with
    | .next t => runAll rest t
    | .fault r => .fault r
    | .refused r => .refused r

end Sys2Proof.Machine
end

