-- ==== Sys2Proof/Certificates/Slice0/Obligations.lean ====
section
/-! DEFINITION. The statements about the TK-216 that are to be proved. Each docstring names the rules it comes from. -/

open Sys2Proof Sys2Proof.Machine

/-! ## Start-up -/

/-- The model's step: the command at the front of the queue runs on the state with the queue's rest; on an empty queue
the oldest delivered trigger is taken by its command (entry 4); with neither a second of station time passes (entries 1,
25; R158, R13, R70, R165), which raises the counts of seconds below their limits and queues the commands due in it: the
ends of what takes less than a second (entries 1, 2), the aging and the lapse of each peer entry that changes in it
(R82, R83), the seconds of the blocks and the ends of counts, and no other. In SAFE that second is the load (entry 8),
or with the reset line asserted it raises station time alone. -/
def Obligations.StepRunsFrontCommand : Prop :=
  (∀ (c : Instr) (rest : List Instr) (s : State), s.pending = c :: rest → step s = exec c { s with pending := rest })
  ∧ (∀ (d : Delivery) (rest : List Delivery) (s : State), s.pending = [] → s.delivered = d :: rest →
      (d.trigger = .queueTrigger → step s = exec .queueTrigger s)
      ∧ (d.trigger = .hardBreakthrough → step s = exec .hardBreakthrough s)
      ∧ (d.trigger = .shortRun → step s = exec .shortRun s))
  ∧ (∀ s : State, s.pending = [] → s.delivered = [] → s.startup.stage = .safe →
      (s.pins.resetLine = true → step s = .next { s with now := s.now + 1 })
      ∧ (s.pins.resetLine = false → s.startup = ⟨.safe, none, none, none, false, none, 0, .none⟩ →
          s.port = ⟨none, none, none, [], none⟩ →
          ∃ t, step s = .next t ∧ t.loadedFrom s.pins.straps.toNat s.mem ∧ t.now = s.now ∧ t.pending = []))
  ∧ (∀ s : State, s.pending = [] → s.delivered = [] → s.startup.stage ≠ .safe → ∃ t, step s = .next t
      ∧ t = { s with
        now := s.now + 1
        meas := { s.meas with settling := t.meas.settling }
        link := { s.link with statusTick := t.link.statusTick }
        startup := { s.startup with listenElapsed := t.startup.listenElapsed }
        pending := t.pending }
      ∧ t.meas.settling = s.meas.settling.map (fun k => if k + 1 < 60 then k + 1 else k)
      ∧ t.link.statusTick = s.link.statusTick.map (fun k => if k + 1 < s.cfg.s then k + 1 else k)
      ∧ t.startup.listenElapsed = (if s.startup.stage = .listen ∧ s.startup.listenElapsed + 1 < 3 * s.cfg.s
          then s.startup.listenElapsed + 1 else s.startup.listenElapsed)
      ∧ (.sequenceSecond ∈ t.pending ↔ s.seq.activity ≠ .idle)
      ∧ (.ripeningSecond ∈ t.pending ↔ s.rip.step = .running)
      ∧ (.driveSecond ∈ t.pending ↔
          s.startup.stage = .release ∨ s.startup.stage = .recovery ∨ s.startup.stage = .running)
      ∧ (.conditionSecond ∈ t.pending ↔ s.startup.stage = .running)
      ∧ (.settlingExpiry ∈ t.pending ↔ s.meas.settling.any (fun k => 60 ≤ k + 1) = true)
      ∧ (.statusTick ∈ t.pending ↔ s.link.statusTick.any (fun k => s.cfg.s ≤ k + 1) = true)
      ∧ (.listenEnd ∈ t.pending ↔ s.startup.stage = .listen ∧ 3 * s.cfg.s ≤ s.startup.listenElapsed + 1)
      ∧ (.settleExpiry ∈ t.pending ↔ s.rot.settleDeadline.any (· ≤ s.now + 1) = true)
      ∧ (∀ n : BitVec 4, (.peerAging n ∈ t.pending ↔ ∃ e ∈ s.peers, BitVec.ofNat 4 e.number = n
          ∧ (e.presence = .fresh ∧ 3 * e.senderS.getD 10 < s.now + 1 - e.lastHeard
            ∨ e.presence = .stale ∧ 10 * e.senderS.getD 10 < s.now + 1 - e.lastHeard)))
      ∧ (∀ n : BitVec 4, (.occupancyLapse n ∈ t.pending ↔ ∃ e ∈ s.peers, BitVec.ofNat 4 e.number = n
          ∧ e.occupancyUntil.any (· < s.now + 1) = true))
      ∧ (.accessWaitEnd ∈ t.pending ↔ s.link.accessWait ≠ none)
      ∧ (.assemblyQuietTimeout ∈ t.pending ↔ s.link.assembly ≠ none)
      ∧ (.portQuietTimeout ∈ t.pending ↔ s.port.assembly ≠ none)
      ∧ (.recordWriteEnd ∈ t.pending ↔ s.startup.memWrite = .record)
      ∧ (.lockWriteEnd ∈ t.pending ↔ s.startup.memWrite = .lock)
      ∧ (.answerSent ∈ t.pending ↔ s.port.answer ≠ none ∧ s.port.processing ≠ none)
      ∧ (.owedRefusalSent ∈ t.pending ↔ s.port.answer ≠ none ∧ s.port.processing = none)
      ∧ (∀ c ∈ t.pending, (∃ n, c = .peerAging n ∨ c = .occupancyLapse n)
          ∨ c ∈ [Instr.sequenceSecond, .ripeningSecond, .driveSecond, .conditionSecond, .settlingExpiry, .statusTick,
            .listenEnd, .settleExpiry, .accessWaitEnd, .assemblyQuietTimeout, .portQuietTimeout, .recordWriteEnd,
            .lockWriteEnd, .answerSent, .owedRefusalSent]))

/-- RESET_LINE_ASSERTED (R159): every block at its start values, the waiting commands kept, the memory kept, a write in
progress cut off (R168, R169). The lock state in SAFE and the level the line leaves are entry 7. -/
def Obligations.ResetLineStartsSafe : Prop :=
  ∀ s : State, s.memoryCanonical → ∃ t, exec .resetLineAsserted s = .next t
    ∧ t.startup.stage = .safe ∧ t.startup.number = none ∧ t.startup.working = none ∧ t.startup.faultIndex = none
    ∧ t.startup.selection = none ∧ t.startup.listenElapsed = 0 ∧ t.startup.memWrite = .none ∧ t.now = 0
    ∧ (∀ ch, t.meas.get ch = ⟨[], none, .notReady, 0, 0⟩)
    ∧ t.meas.settling = none ∧ t.meas.decision = none ∧ t.meas.channelFault = false
    ∧ t.cond = ⟨0, 0, 0, 0, 0, 0, 0, false, false, false⟩
    ∧ t.rot = ⟨.start, false, false, false, false, false, false, 0, none, none, none, none, none, none, false, false⟩
    ∧ t.link = ⟨[], none, false, none, none, false, none, false, false, 0, false⟩ ∧ t.peers = []
    ∧ t.seq.activity = .idle ∧ t.seq.subStep = none ∧ t.seq.phaseElapsed = 0 ∧ t.seq.blowerOn = 0
    ∧ t.seq.rinseElapsed = 0 ∧ t.seq.rinseWater = none ∧ t.seq.suspTotal = 0 ∧ t.seq.washClock = 0
    ∧ t.seq.abortCause = none ∧ t.seq.airSkipped = false ∧ t.seq.shortRinse = false ∧ t.seq.levelSlow = false
    ∧ t.seq.bound = 0 ∧ t.delivered = []
    ∧ t.rip = ⟨.idle, 0, 0, none, false⟩
    ∧ (∀ v, t.valve v = ⟨.unknown, none, .idle, 0, false, [], none, false, none, none⟩)
    ∧ t.drive.blower = ⟨.stopped, false, none, 0, false, false⟩ ∧ t.drive.valveFault = false
    ∧ t.port = ⟨none, none, none, [], none⟩ ∧ t.pins = { s.pins with resetLine := true } ∧ t.pending = s.pending
    ∧ (s.startup.memWrite = .none → t.mem = s.mem)
    ∧ (∀ record tag, s.startup.memWrite = .record → s.port.processing = some ⟨.writeConfig record, tag⟩ →
        record.length = 96 → ∀ a, t.mem.read a = s.mem.read a
          ∨ (a < 98 ∧ (record ++ crcBytes record)[a]? = some (t.mem.read a)))
    ∧ (s.startup.memWrite = .lock → ∀ a, a ≠ 127 → t.mem.read a = s.mem.read a)

/-- POWER_ON and RESET_LINE_RELEASED (R159): LOAD from the straps and the memory (R161, R162); POWER_ON stays in SAFE
while the reset line is asserted. LOAD standing within the command is entry 8. -/
def Obligations.LoadFollowsSafe : Prop :=
  (∀ s : State, s.startup.memWrite = .none → s.pins.resetLine = false →
      ∃ t, exec .powerOn s = .next t ∧ t.loadedFrom s.pins.straps.toNat s.mem ∧ t.rot.service = .start
        ∧ t.pins = s.pins ∧ t.pending = s.pending ∧ t.port = ⟨none, none, none, [], none⟩)
    ∧ (∀ s : State, s.startup.memWrite = .none → s.pins.resetLine = true →
      ∃ t, exec .powerOn s = .next t ∧ t.startup.stage = .safe ∧ t.mem = s.mem ∧ t.rot.service = .start
        ∧ t.pins = s.pins)
    ∧ ∀ s : State, s.startup = ⟨.safe, none, none, none, false, none, 0, .none⟩ → s.port = ⟨none, none, none, [], none⟩ →
      ∃ t, exec .resetLineReleased s = .next t ∧ t.loadedFrom s.pins.straps.toNat s.mem
        ∧ t.pins = { s.pins with resetLine := false } ∧ t.port = s.port ∧ t.drive = s.drive ∧ t.meas = s.meas
        ∧ t.cond = s.cond ∧ t.rot = s.rot ∧ t.link = s.link ∧ t.peers = s.peers ∧ t.now = s.now
        ∧ t.pending = s.pending

/-- The table of R162: the 43 fields pass exactly when the working copy satisfies these ranges and relations. -/
def Obligations.LoadRangesAndRelations : Prop :=
  ∀ (number : Nat) (f : Nat → Nat) (p : Params), p = Params.ofFields f →
    (allFieldsPass number f ↔
      ((2 ≤ p.nG ∧ p.nG ≤ 16 ∧ number < p.nG) ∧ (1 ≤ p.w ∧ p.w ≤ 3 ∧ p.w < p.nG) ∧ (1 ≤ p.s ∧ p.s ≤ 10)
        ∧ (10 ≤ p.area ∧ p.area ≤ 200) ∧ (50 ≤ p.rMax ∧ p.rMax ≤ 250) ∧ (50 ≤ p.hT ∧ p.hT ≤ 400)
        ∧ (600 ≤ p.tMax ∧ p.tMax ≤ 10080) ∧ (p.tMin ≤ 1440 ∧ 4 * p.tMin < 3 * p.tMax)
        ∧ (500 ≤ p.qThr ∧ p.qThr ≤ 1000) ∧ (50 ≤ p.uT ∧ p.uT ≤ 1000)
        ∧ (50 ≤ p.uHard ∧ p.uHard ≤ 4000 ∧ p.uT ≤ p.uHard) ∧ (20 ≤ p.uRipen ∧ p.uRipen ≤ 1000 ∧ p.uRipen ≤ p.uT)
        ∧ (p.lo0 < p.hi0 ∧ p.hi0 ≤ 600) ∧ (p.lo1 < p.hi1 ∧ p.hi1 ≤ 5000) ∧ (p.lo2 < p.hi2 ∧ p.hi2 ≤ 400)
        ∧ (p.lo3 < p.hi3 ∧ p.hi3 ≤ 4000) ∧ (p.lo4 < p.hi4 ∧ p.hi4 ≤ 1000)
        ∧ (p.lLow < p.lHigh ∧ p.lHigh ≤ 400) ∧ p.lStart ≤ 1000 ∧ (p.lFloor < p.lResume ∧ p.lResume ≤ p.lStart)
        ∧ (60 ≤ p.tLower ∧ p.tLower ≤ 1800) ∧ (30 ≤ p.tAir ∧ p.tAir ≤ 900) ∧ (5 ≤ p.tOn ∧ p.tOn ≤ 120)
        ∧ p.tOff ≤ 120 ∧ p.tAw ≤ 900 ∧ (60 ≤ p.tRinse ∧ p.tRinse ≤ 1800) ∧ p.tSusp ≤ 900
        ∧ (60 ≤ p.tRefill ∧ p.tRefill ≤ 1800) ∧ (30 ≤ p.tRhold ∧ p.tRhold ≤ 1800)
        ∧ (300 ≤ p.tRmax ∧ p.tRmax ≤ 7200 ∧ p.tRhold ≤ p.tRmax)
        ∧ ∀ v, 5 ≤ p.travel v ∧ p.travel v ≤ 120))

/-- LISTEN_END (R165, R166): from LISTEN, at the second in which LISTEN elapsed reaches 3 × S, by the positions that
still show the selection: FILTERING, with the components and urgency computed from the values that stand (R28), STANDBY,
else recovery (R167), a pattern other than the selection's among them. Recovery with nothing to close ends at once:
QUEUED where all six stand closed, ISOLATED where one stands in FAULT. The end of recovery (R167), by TARGET_SWITCH_MADE
or TRAVEL_TIMEOUT of the valve whose close ends last: QUEUED where all six stand closed and no valve fault has been
reported, ISOLATED where one has; held and recovery are kept, the components are not computed and urgency is 1000 in
QUEUED and 0 in ISOLATED (R28), the status tick count starts and the gallery is told. RELEASE standing within LISTEN_END
is entry 8; that recovery without a fault waits for a valve that is re-driven is entry 15. -/
def Obligations.ListenEndReleases : Prop :=
  (∀ s : State, s.startup.stage = .listen → 3 * s.cfg.s ≤ s.startup.listenElapsed + 1 → s.rot.service = .start →
    ∃ t, exec .listenEnd s = .next t ∧ Quiet s t
      ∧ (s.startup.selection = some .filtering →
          (∀ v, (s.valve v).pos = if v = .inf ∨ v = .eff then .opened else .closed) →
          t.startup.stage = .running ∧ t.rot.service = .filtering ∧ t.link.statusTick = some 0
            ∧ t.cond.runTime = s.cfg.tMin ∧ t.cond.runSeconds = 0 ∧ t.cond.rtEstimated = true
            ∧ t.cond.closedWindow = false
            ∧ t.cond.baseline = (match s.meas.ch0.filtered with
              | some h => min h (s.cfg.hT - 20)
              | none => 0)
            ∧ (s.meas.settling = none → t.meas.decision = s.meas.ch1.filtered) ∧ t.urgencyStands
            ∧ t.rot.held = s.rot.held ∧ t.rot.manual = s.rot.manual
            ∧ ∀ v, (t.valve v).pos = (s.valve v).pos
              ∧ (t.valve v).commanded = some (if v = .inf ∨ v = .eff then .openEnd else .closedEnd))
      ∧ (s.startup.selection = some .standby → (∀ v, (s.valve v).pos = .closed) →
          t.startup.stage = .running ∧ t.rot.service = .standby ∧ t.link.statusTick = some 0
            ∧ t.cond = { s.cond with cH := 0, cT := 0, cU := 0, urgency := 0 } ∧ t.rot.held = s.rot.held
            ∧ ∀ v, (t.valve v).pos = .closed ∧ (t.valve v).commanded = some .closedEnd)
      ∧ (let service := ∀ v, (s.valve v).pos = if v = .inf ∨ v = .eff then .opened else .closed
         let closed := ∀ v, (s.valve v).pos = .closed
         let recovers := ¬ (s.startup.selection = some .filtering ∧ service)
           ∧ ¬ (s.startup.selection = some .standby ∧ closed)
         let atOnce (x : ServiceState) (cond : Condition) := t.startup.stage = .running
           ∧ t.rot = { s.rot with
             service := x, held := true, recovery := true
             manual := s.rot.manual && decide (x = .queued), oversub := false }
           ∧ t.link.statusTick = some 0
           ∧ StatusAsked { s with link := { s.link with statusTick := some 0 } } t ∧ t.cond = cond ∧ t.seq = s.seq
           ∧ ∀ v, (t.valve v).pos = (s.valve v).pos ∧ (t.valve v).commanded = some .closedEnd
         (recovers → (∃ v, (s.valve v).pos ≠ .closed ∧ (s.valve v).pos ≠ .fault) →
            t.startup.stage = .recovery ∧ t.rot.service = .start ∧ t.rot.held = true ∧ t.rot.recovery = true
              ∧ t.cond = s.cond ∧ t.link = s.link
              ∧ ∀ v, (t.valve v).commanded = some .closedEnd
                ∧ ((s.valve v).pos = .opened ∨ (s.valve v).pos = .unknown →
                  (t.valve v).pos = .closing ∧ (t.valve v).drive = .energized ∧ (t.valve v).timer = 0))
          ∧ (recovers → (∀ v, (s.valve v).waiting = []) → closed → atOnce .queued { s.cond with urgency := 1000 })
          ∧ (recovers → (∀ v, (s.valve v).waiting = [] ∧ ((s.valve v).pos = .closed ∨ (s.valve v).pos = .fault)) →
              (∃ v, (s.valve v).pos = .fault) →
              atOnce .isolated { s.cond with cH := 0, cT := 0, cU := 0, urgency := 0 })))
  ∧ (∀ (v : Valve) (s : State), s.startup.stage = .recovery → s.rot.service = .start → (s.valve v).pos = .closing →
      (s.valve v).drive = .energized → (∀ w, w ≠ v → (s.valve w).waiting = []) →
      (let ended (service : ServiceState) (cond : Condition) (t : State) := Quiet s t ∧ t.startup.stage = .running
         ∧ t.rot = { s.rot with
           service := service, manual := s.rot.manual && decide (service = .queued), oversub := false }
         ∧ t.link.statusTick = some 0
         ∧ StatusAsked { s with link := { s.link with statusTick := some 0 } } t
         ∧ t.cond = cond ∧ t.seq = s.seq
         ∧ ∀ w, (t.valve w).commanded = (s.valve w).commanded ∧ (w ≠ v → (t.valve w).pos = (s.valve w).pos)
       let outOfRun : Condition := { s.cond with cH := 0, cT := 0, cU := 0, urgency := 0 }
       (s.drive.valveFault = false → (∀ w, w ≠ v → (s.valve w).pos = .closed) → s.rot.held = true →
          ∃ t, exec (.targetSwitchMade v) s = .next t ∧ ended .queued { s.cond with urgency := 1000 } t
            ∧ (t.valve v).pos = .closed)
       ∧ (s.flagsTrue → s.drive.valveFault = true →
          ∃ t, exec (.targetSwitchMade v) s = .next t ∧ ended .isolated outOfRun t ∧ (t.valve v).pos = .closed)
       ∧ ((s.switches v).closedMade = false → s.cfg.travel v ≤ (s.valve v).timer + 1 →
          ∃ t, exec (.travelTimeout v) s = .next t ∧ ended .isolated outOfRun t ∧ (t.valve v).pos = .fault
            ∧ t.drive.valveFault = true)))

/-! ## Measurement -/

/-- SAMPLE: the run counts and the window of the channel's record, in every status (R3, R4), and nothing of another
channel's; then the status and the filtered value by the counts as the same sample left them (R5 to R8), and the
channel-fault flag (R10); settling stays as it was (R12, R13). With a sample of CH1 the decision value takes the filtered
value exactly where the three conditions of R11 hold; CH1 entering FAULT makes the basis of a ripening ON-TIME with the
hold timer 0 in CLOSING, OPENING and RUNNING (R139), and turbidity ripened ceasing to hold sets a hold timer that counts
to 0 (R138). Outside INPUTS nothing else changes, but where the sample brings one of the events a RUNNING phase of a wash
acts on, which SequenceSecondCounts, LowerEndsIntoAir and RefillEndsWash state: bed low in LOWER (R117), bed high in
REFILL (R124), the tank's level or CH4 entering FAULT in RINSE (R122, R123). The sample with which the last channel
leaves NOT-READY ends INPUTS (R164): every position is read from its two switches (R152), the selection is made by their
pattern, and LISTEN begins with the receiver enabled. That survey standing within the sample is entry 8. -/
def Obligations.SampleCountsThenStatus : Prop :=
  ∀ (ch : Channel) (code : BitVec 12) (s : State), s.scanning = true → ∃ t, exec (.sample ch code) s = .next t
    ∧ (614 ≤ code.toNat ∧ code.toNat ≤ 3583 →
        (t.meas.get ch).validRun = min 8 ((s.meas.get ch).validRun + 1) ∧ (t.meas.get ch).invalidRun = 0
          ∧ ((s.meas.get ch).window.length < 8 → (t.meas.get ch).window = (s.meas.get ch).window ++ [code.toNat])
          ∧ ((s.meas.get ch).window.length = 8 →
              (t.meas.get ch).window = (s.meas.get ch).window.tail ++ [code.toNat]))
    ∧ (code.toNat < 614 ∨ 3583 < code.toNat →
        (t.meas.get ch).validRun = 0 ∧ (t.meas.get ch).invalidRun = min 3 ((s.meas.get ch).invalidRun + 1)
          ∧ (t.meas.get ch).window = (s.meas.get ch).window)
    ∧ (∀ other, other ≠ ch → t.meas.get other = s.meas.get other)
    ∧ t.mem = s.mem ∧ t.now = s.now ∧ t.port = s.port ∧ t.peers = s.peers ∧ t.pending = s.pending
    ∧ (s.deliveredNamed → t.delivered = s.delivered.filter (fun d => d.trigger.names t.rot.service))
    ∧ t.meas.settling = s.meas.settling
    ∧ (let phase (a : Activity) := s.seq.subStep = some .running ∧ s.seq.activity = a
       let bedLow := s.bedLow = false ∧ t.bedLow = true ∧ t.meas.ch2.status = .valid
       let bedHigh := s.bedHigh = false ∧ t.bedHigh = true ∧ t.meas.ch2.status = .valid
       let tank := s.tankBelowFloor ≠ t.tankBelowFloor ∨ s.tankAtResume ≠ t.tankAtResume
       let suspends := s.seq.rinseWater ≠ some .suspended ∧ tank ∧ t.tankBelowFloor = true ∧ t.meas.ch4.status = .valid
       let resumes := s.seq.rinseWater = some .suspended
         ∧ (tank ∧ t.tankAtResume = true ∧ t.meas.ch4.status = .valid
           ∨ s.meas.ch4.status ≠ .fault ∧ t.meas.ch4.status = .fault)
       s.startup.stage ≠ .inputs →
       ¬ (ch = .ch2 ∧ phase .lower ∧ bedLow) → ¬ (ch = .ch2 ∧ phase .refill ∧ bedHigh) →
       ¬ (ch = .ch4 ∧ phase .rinse ∧ (suspends ∨ resumes)) →
       t = { s with meas := t.meas, rip := t.rip } ∧ (ch ≠ .ch1 → t.rip = s.rip ∧ t.meas.decision = s.meas.decision))
    ∧ (ch = .ch1 →
       (let follows := s.meas.settling = none ∧ ((s.valve .eff).pos = .opened ∨ (s.valve .ftw).pos = .opened)
          ∧ s.rot.service ≠ .washing ∧ s.rot.service ≠ .start
        let counting := s.rip.step = .running ∧ s.rip.basis = some .verified ∧ s.meas.settling = none
        (follows → t.meas.decision = t.meas.ch1.filtered)
        ∧ (¬ follows → t.meas.decision = s.meas.decision)
        ∧ (s.meas.ch1.status = .fault ∨ t.meas.ch1.status ≠ .fault →
            (counting → s.turbidityRipened = true → t.turbidityRipened = false → t.rip = { s.rip with hold := 0 })
            ∧ (¬ counting ∨ s.turbidityRipened = false ∨ t.turbidityRipened = true → t.rip = s.rip))))
    ∧ (let r := s.meas.get ch
       let r' := t.meas.get ch
       let valid := 614 ≤ code.toNat ∧ code.toNat ≤ 3583
       let mean := min 3413 (max 683 (r'.window.sum / 8))
       let value := s.cfg.lo ch + (mean - 683) * (s.cfg.hi ch - s.cfg.lo ch) / 2730
       (r.status = .notReady → valid → r'.window.length = 8 → r'.status = .valid ∧ r'.filtered = some value)
        ∧ (r.status = .notReady → valid → r'.window.length ≠ 8 →
            r'.status = .notReady ∧ r'.filtered = r.filtered)
        ∧ (r.status = .valid → valid → r'.status = .valid ∧ r'.filtered = some value)
        ∧ (r.status = .fault → valid → r'.validRun = 8 → r'.status = .valid ∧ r'.filtered = some value)
        ∧ (r.status = .fault → valid → r'.validRun ≠ 8 → r'.status = .fault ∧ r'.filtered = r.filtered)
        ∧ (¬ valid → r'.filtered = r.filtered)
        ∧ (¬ valid → r'.invalidRun = 3 → r'.status = .fault)
        ∧ (¬ valid → r'.invalidRun ≠ 3 → r'.status = r.status))
    ∧ (t.meas.channelFault = true ↔ ∃ c, (t.meas.get c).status = .fault)
    ∧ (ch = .ch1 → s.meas.ch1.status ≠ .fault → t.meas.ch1.status = .fault →
        (s.rip.step = .closing ∨ s.rip.step = .opening ∨ s.rip.step = .running →
          t.rip = { s.rip with basis := some .onTime, hold := 0 })
        ∧ (s.rip.step = .ending ∨ s.rip.step = .idle → t.rip = s.rip))
    ∧ (s.startup.stage = .inputs → s.seq.activity = .idle → (∃ c, (t.meas.get c).status = .notReady) →
        t = { s with meas := t.meas, rip := t.rip })
    ∧ (s.startup.stage = .inputs → s.seq.activity = .idle → (∀ c, (t.meas.get c).status ≠ .notReady) →
        t.startup = { s.startup with stage := .listen, listenElapsed := 0, selection := t.startup.selection }
        ∧ t.link = { s.link with receiver := true } ∧ t.rot = s.rot ∧ t.cond = s.cond ∧ t.seq = s.seq ∧ t.pins = s.pins
        ∧ (s.drive.blower.output = false → t.drive.blower = s.drive.blower)
        ∧ (∀ v, (t.valve v).commanded = (s.valve v).commanded
          ∧ ((s.switches v).closedMade = true → (s.switches v).openMade = true →
              (t.valve v).pos = .fault ∧ (t.valve v).faultKind = some .feedback ∧ t.drive.valveFault = true)
          ∧ ((s.switches v).closedMade = true → (s.switches v).openMade = false → (t.valve v).pos = .closed)
          ∧ ((s.switches v).closedMade = false → (s.switches v).openMade = true → (t.valve v).pos = .opened)
          ∧ ((s.switches v).closedMade = false → (s.switches v).openMade = false → (t.valve v).pos = .unknown))
        ∧ (let service := ∀ v, (t.valve v).pos = if v = .inf ∨ v = .eff then .opened else .closed
           let closed := ∀ v, (t.valve v).pos = .closed
           (service → t.startup.selection = some .filtering) ∧ (closed → t.startup.selection = some .standby)
            ∧ (¬ service → ¬ closed → t.startup.selection = some .recovery)))

/-- SETTLING_EXPIRY (R13): settling stops, and the decision value takes the filtered value of CH1 where R11's other
conditions hold; a hold timer that counts returns to 0 where turbidity ripened ceases to hold (R138). -/
def Obligations.SettlingExpiryFollows : Prop :=
  ∀ (s : State) (k : Nat), s.meas.settling = some k → 60 ≤ k + 1 → s.rot.service ≠ .start →
    ∃ t, exec .settlingExpiry s = .next t
      ∧ t = { s with meas := { s.meas with settling := none, decision := t.meas.decision }, rip := t.rip }
      ∧ (s.rot.service ≠ .washing → (s.valve .eff).pos = .opened ∨ (s.valve .ftw).pos = .opened →
          t.meas.decision = s.meas.ch1.filtered)
      ∧ (s.rot.service = .washing ∨ ((s.valve .eff).pos ≠ .opened ∧ (s.valve .ftw).pos ≠ .opened) →
          t.meas.decision = s.meas.decision ∧ t.rip = s.rip)
      ∧ (t.rip = s.rip ∨ t.rip = { s.rip with hold := 0 })
      ∧ (s.rip.step = .running → s.rip.basis = some .verified → s.turbidityRipened = true →
          t.turbidityRipened = false → t.rip.hold = 0)

/-! ## Condition -/

/-- CONDITION_SECOND (R19, R20, R24 to R27): run time, then the components and urgency; nothing else changes but the
closed window, the short-run flag and the delivered triggers. -/
def Obligations.ConditionSecondComputes : Prop :=
  ∀ s : State, s.startup.stage = .running → ∃ t, exec .conditionSecond s = .next t
    ∧ t = { s with cond := t.cond, delivered := t.delivered } ∧ t.cond.baseline = s.cond.baseline
    ∧ t.cond.rtEstimated = s.cond.rtEstimated
    ∧ (s.rot.service.delivering = true → (s.valve .eff).commanded = some .openEnd →
        (s.cond.runSeconds + 1 ≠ 60 →
          t.cond.runSeconds = s.cond.runSeconds + 1 ∧ t.cond.runTime = s.cond.runTime)
        ∧ (s.cond.runSeconds + 1 = 60 → t.cond.runSeconds = 0 ∧ t.cond.runTime = min 65535 (s.cond.runTime + 1)))
    ∧ (s.rot.service.delivering = false ∨ (s.valve .eff).commanded ≠ some .openEnd →
        t.cond.runSeconds = s.cond.runSeconds ∧ t.cond.runTime = s.cond.runTime)
    ∧ (s.rot.service.delivering = true → s.rot.held = false →
        t.cond.cH = (match s.meas.ch0.filtered with
          | none => 0
          | some h => if h ≤ s.cond.baseline then 0
            else min 1000 (1000 * (h - s.cond.baseline) / (s.cfg.hT - s.cond.baseline)))
        ∧ t.cond.cT = (if 4 * t.cond.runTime ≤ 3 * s.cfg.tMax then 0
            else min 1000 (1000 * (4 * t.cond.runTime - 3 * s.cfg.tMax) / s.cfg.tMax))
        ∧ t.cond.cU = (match s.meas.decision with
          | none => 0
          | some u => min 1000 (1000 * u / s.cfg.uT))
        ∧ t.cond.urgency = (if s.rot.manual then 1000 else max t.cond.cH (max t.cond.cT t.cond.cU)))
    ∧ (s.rot.service.delivering = true → s.rot.held = true →
        t.cond.cH = s.cond.cH ∧ t.cond.cT = s.cond.cT ∧ t.cond.cU = s.cond.cU ∧ t.cond.urgency = 1000)
    ∧ (s.rot.service.delivering = false →
        t.cond.cH = 0 ∧ t.cond.cT = 0 ∧ t.cond.cU = 0 ∧ t.cond.urgency = 0)

/-- CONDITION_SECOND, step 4 (R29 to R34): which trigger is found, from the closed window and urgency as the same second
leaves them; it joins the delivered triggers behind those that wait, carrying the service state in which it was found,
and an event that waits already is not delivered twice (entry 4). CLOSED_WINDOW_END (R29, R20): the condition second
that finds run time at or above T_min, in a run the one that completes the minute at T_min, ends the closed window; that
the command is that whole condition second is entry 3. -/
def Obligations.ConditionSecondTriggers : Prop :=
  (∀ s : State, s.startup.stage = .running → ∃ t, exec .conditionSecond s = .next t
      ∧ t.cond.closedWindow = (s.cond.closedWindow && decide (t.cond.runTime < s.cfg.tMin))
      ∧ (let hard := s.meas.ch1.status = .valid ∧ s.meas.decision.any (s.cfg.uHard ≤ ·) = true
         let delivers (x : Trigger) :=
           t.delivered = (if ⟨x, s.rot.service⟩ ∈ s.delivered then s.delivered else s.delivered ++ [⟨x, s.rot.service⟩])
           ∧ t.cond.shortRun = (s.cond.shortRun || decide (x = .shortRun))
         let none_ := t.delivered = s.delivered ∧ t.cond.shortRun = s.cond.shortRun
         (s.rot.service = .filtering → t.cond.closedWindow = true →
            (s.cfg.qThr ≤ t.cond.cH ∨ s.cfg.qThr ≤ t.cond.cU ∨ hard → delivers .shortRun)
            ∧ (¬ (s.cfg.qThr ≤ t.cond.cH ∨ s.cfg.qThr ≤ t.cond.cU ∨ hard) → none_))
          ∧ (s.rot.service = .filtering → t.cond.closedWindow = false →
            (s.rot.held = false → hard → delivers .hardBreakthrough)
            ∧ (s.rot.held = true ∨ ¬ hard → s.cfg.qThr ≤ t.cond.urgency → delivers .queueTrigger)
            ∧ (s.rot.held = true ∨ ¬ hard → t.cond.urgency < s.cfg.qThr → none_))
          ∧ (s.rot.service = .queued ∨ s.rot.service = .claiming →
            (t.cond.closedWindow = false ∧ s.rot.held = false ∧ hard → delivers .hardBreakthrough)
            ∧ (¬ (t.cond.closedWindow = false ∧ s.rot.held = false ∧ hard) → none_))
          ∧ (s.rot.service.delivering = false → none_)))
  ∧ (∀ s : State, s.startup.stage = .running → s.cond.closedWindow = true →
        (s.cfg.tMin ≤ s.cond.runTime → s.cond.runTime ≤ 65535 →
          ∃ t, exec .closedWindowEnd s = .next t ∧ t.cond.closedWindow = false ∧ exec .conditionSecond s = .next t
            ∧ t = { s with cond := t.cond, delivered := t.delivered })
        ∧ (s.rot.service.delivering = true → (s.valve .eff).commanded = some .openEnd → s.cond.runSeconds = 59 →
            s.cond.runTime + 1 = s.cfg.tMin → s.cfg.tMin ≤ 65535 →
          ∃ t, exec .closedWindowEnd s = .next t ∧ t.cond.closedWindow = false ∧ t.cond.runTime = s.cfg.tMin
            ∧ t.cond.runSeconds = 0 ∧ exec .conditionSecond s = .next t
            ∧ t = { s with cond := t.cond, delivered := t.delivered }))

/-- QUEUE_TRIGGER (R30, R34, R28, R54): FILTERING goes to QUEUED and the gallery is told. SHORT_RUN (R33, R34, R42, R39,
R27): FILTERING is isolated. In every other service state either trigger is dropped. Of the triggers that wait behind it
those are dropped whose states the station leaves. -/
def Obligations.QueueAndShortRunTaken : Prop :=
  (∀ s : State,
      let taken := { s with delivered := s.delivered.eraseP (fun d => d.trigger == .queueTrigger) }
      (s.rot.service = .filtering → ∃ t, exec .queueTrigger s = .next t ∧ Quiet taken t
        ∧ t.rot = { s.rot with service := .queued, oversub := false } ∧ t.drive = s.drive ∧ t.seq = s.seq
        ∧ t.cond = { s.cond with
            urgency := if s.rot.held || s.rot.manual then 1000 else max s.cond.cH (max s.cond.cT s.cond.cU) }
        ∧ t.delivered = taken.delivered.filter (fun d => d.trigger == .hardBreakthrough) ∧ StatusAsked s t)
      ∧ (s.rot.service ≠ .filtering → exec .queueTrigger s = .next taken))
  ∧ (∀ s : State,
        let taken := { s with delivered := s.delivered.eraseP (fun d => d.trigger == .shortRun) }
        (s.rot.service = .filtering → ∃ t, exec .shortRun s = .next t ∧ Quiet taken t ∧ t.delivered = []
          ∧ t.rot = { s.rot with service := .isolated, manual := false, oversub := false }
          ∧ (t.valve .inf).commanded = some .closedEnd ∧ (t.valve .eff).commanded = some .closedEnd
          ∧ ((s.valve .ftw).commanded = some .openEnd → (t.valve .ftw).commanded = some .closedEnd)
          ∧ ((s.valve .ftw).commanded ≠ some .openEnd → t.valve .ftw = s.valve .ftw)
          ∧ t.valve .drn = s.valve .drn ∧ t.valve .ww = s.valve .ww ∧ t.valve .air = s.valve .air
          ∧ t.cond = { s.cond with cH := 0, cT := 0, cU := 0, urgency := 0 } ∧ t.seq = s.seq ∧ StatusAsked s t)
        ∧ (s.rot.service ≠ .filtering → exec .shortRun s = .next taken))

/-- HARD_BREAKTHROUGH (R31, R32, R34, R38, R28): held is set, EFF and INF are requested closed, FILTERING goes to
QUEUED, which drops the triggers that name FILTERING alone, and QUEUED and CLAIMING stay; in the other states it is
dropped, and with held set it changes nothing else. -/
def Obligations.HardBreakthroughHolds : Prop :=
  ∀ s : State,
    let taken := { s with delivered := s.delivered.eraseP (fun d => d.trigger == .hardBreakthrough) }
    (s.rot.service.delivering = true → s.rot.held = false → ∃ t, exec .hardBreakthrough s = .next t
      ∧ Quiet taken t ∧ t.rot.held = true
      ∧ t.delivered = (if s.rot.service = .filtering
          then taken.delivered.filter (fun d => d.trigger == .hardBreakthrough) else taken.delivered)
      ∧ t.rot.service = (if s.rot.service = .claiming then .claiming else .queued)
      ∧ t.rot.claimed = s.rot.claimed ∧ t.rot.claimFlags = s.rot.claimFlags
      ∧ t.rot.settleDeadline = s.rot.settleDeadline ∧ t.rot.outstanding = s.rot.outstanding
      ∧ (t.valve .eff).commanded = some .closedEnd ∧ (t.valve .inf).commanded = some .closedEnd
      ∧ (∀ v, (v = .eff ∨ v = .inf) → (s.valve v).pos = .opened →
          (t.valve v).pos = .closing ∧ (t.valve v).drive = .energized ∧ (t.valve v).timer = 0)
      ∧ (∀ v, v ≠ .eff → v ≠ .inf → t.valve v = s.valve v)
      ∧ t.cond = { s.cond with urgency := 1000 } ∧ t.seq = s.seq
      ∧ (s.rot.service = .filtering → StatusAsked s t) ∧ (s.rot.service ≠ .filtering → t.link = s.link))
    ∧ (s.rot.service.delivering = false ∨ s.rot.held = true → exec .hardBreakthrough s = .next taken)

/-! ## The service port -/

/-- R174: where an arrived request of any kind goes when the port is not free to handle it, and that SAFE discards it
(R160); its characters leave no partial assembly (R173). -/
def Obligations.PortKeepsArrivalOrder : Prop :=
  ∀ (k : ReqKind) (tag : BitVec 4) (s : State), k.formed →
    (s.startup.stage = .safe → exec (k.command tag) s = .next s)
    ∧ (s.startup.stage ≠ .safe → s.startup.memWrite ≠ .none ∨ s.port.pendingReq ≠ none →
        (s.port.owed.length < 4 →
          exec (k.command tag) s = .next { s with
            port := { s.port with assembly := none, owed := s.port.owed ++ [⟨k, tag⟩] } })
        ∧ (4 ≤ s.port.owed.length →
          exec (k.command tag) s = .next { s with port := { s.port with assembly := none } }))
    ∧ (s.startup.stage ≠ .safe → s.startup.memWrite = .none → s.port.pendingReq = none →
        s.port.processing ≠ none ∨ s.startup.stage = .load ∨ s.port.owed ≠ [] →
        exec (k.command tag) s = .next { s with port := { s.port with assembly := none, pendingReq := some ⟨k, tag⟩ } })

/-- R175: the screening of a request in processing: in CONFIG-FAULT eight kinds are refused FAULT; outside it READ-PEER
and FORGET are refused RANGE for a number at or above N_g or equal to the own. -/
def Obligations.PortScreensRequests : Prop :=
  ∀ (tag : BitVec 4) (s : State), s.portFree →
    (s.startup.stage = .configFault → ∀ k : ReqKind,
      (k = .washNow ∨ k = .takeOut ∨ k = .returnFilter ∨ k = .abort ∨ k = .hold ∨ k = .resume
        ∨ (∃ n, k = .readPeer n) ∨ ∃ n, k = .forget n) →
      exec (k.command tag) s = .next { s with port := s.port.answering k tag (.refused .fault) })
    ∧ (s.startup.stage ≠ .configFault → ∀ n : Byte, s.cfg.nG ≤ n.toNat ∨ n.toNat = s.ownNumber →
      exec (.readPeer tag n) s = .next { s with port := s.port.answering (.readPeer n) tag (.refused .range) }
        ∧ exec (.forget tag n) s = .next { s with port := s.port.answering (.forget n) tag (.refused .range) })

/-- READ_STATION, READ_PEER and READ_CONFIG (R177, R178, R89): the answer is OK with the data of the moment, and nothing
but the port's record changes; READ-CONFIG shows the memory's bytes as stored and compares bytes 0..95 with the working
copy (entry 20). The values of READ-STATION in their order (R177, R183; order, widths and codes as entry 12 has them),
at the same offsets in every state: blower-on accumulated, rinse elapsed and suspension total with their start values in
START and CONFIG-FAULT (R177), and in the service states outside AIR and RINSE absent (R133; entry 30). Those of a peer
entry (R75; the width of occupancy-until is entry 11, the low bytes of one too large for it entry 31), in an answer of
at most 255 bytes (R182). -/
def Obligations.ReadRequestsChangeNothing : Prop :=
  ∀ (tag : BitVec 4) (s : State), s.portFree →
    exec (.readStation tag) s = .next { s with port := s.port.answering .readStation tag (.ok s.stationData) }
    ∧ (s.startup.stage ≠ .configFault → ∀ n : Byte, n.toNat < s.cfg.nG → n.toNat ≠ s.ownNumber →
        exec (.readPeer tag n) s =
          .next { s with
            port := s.port.answering (.readPeer n) tag
              (.ok (match s.peer n.toNat with
                | some e => 1 :: s.entryData e
                | none => [0])) })
    ∧ (∃ compared : Byte, (s.startup.working = none → compared = 0xFF)
        ∧ (s.startup.working ≠ none → compared =
          if s.startup.working.map WorkingCopy.bytes = some ((List.range 96).map s.mem.read) then 1 else 0)
        ∧ exec (.readConfig tag) s = .next { s with
          port := s.port.answering .readConfig tag (.ok ((List.range 98).map s.mem.read
            ++ [if s.mem.storedCrc = crcBytes s.mem.record then 1 else 0, compared,
                if s.startup.locked then 1 else 0])) })
    ∧ s.stationData.length = 139 ∧ s.stationData.length = State.reset.stationData.length
    ∧ (let d := s.stationData
       (∀ k, ([.safe, .load, .configFault, .inputs, .survey, .listen, .release, .recovery, .running] : List Stage)[k]?
            = some s.startup.stage → Shows d 0 1 (some k))
        ∧ Shows d 1 1 s.startup.number ∧ Shows d 2 1 s.startup.faultIndex
        ∧ (s.startup.stage = .configFault → Shows d 3 1 (some 8))
        ∧ (∀ k, ([.start, .filtering, .queued, .claiming, .washing, .ripening, .standby, .isolated] :
              List ServiceState)[k]? = some s.rot.service → s.startup.stage ≠ .configFault → Shows d 3 1 (some k))
        ∧ Shows d 4 1 (some s.rot.held.toNat) ∧ Shows d 5 1 (some s.rot.manual.toNat)
        ∧ Shows d 6 1 (some s.rot.recovery.toNat) ∧ Shows d 7 1 (some s.rot.holdAsserted.toNat)
        ∧ Shows d 8 1 (some s.rot.deferredTakeOut.toNat) ∧ Shows d 9 1 (some s.rot.deferredWashNow.toNat)
        ∧ Shows d 10 1 (some (s.rot.holdAsserted || s.peerHold).toNat)
        ∧ Shows d 11 3 (some s.statusContent.flags.toNat)
        ∧ (∀ k, ([none, some .hold, some .silent, some .slots, some .rate, some .supply] : List (Option Reason))[k]?
            = some s.rot.lastRefusal → Shows d 14 1 (some k))
        ∧ Shows d 15 2 s.rot.predictedRate ∧ Shows d 17 2 (some s.rot.serial)
        ∧ Shows d 19 1 (some s.rot.outstanding.isSome.toNat) ∧ Shows d 20 2 (s.rot.claimed.map Claimed.urgency)
        ∧ Shows d 22 3 (s.rot.claimed.map Claimed.runTime)
        ∧ Shows d 25 1 (s.rot.claimFlags.map (fun f => f.held.toNat))
        ∧ Shows d 26 1 (s.rot.claimFlags.map (fun f => f.manual.toNat))
        ∧ Shows d 27 1 (s.rot.settleDeadline.map (· - s.now)) ∧ Shows d 28 1 (some s.rot.oversub.toNat)
        ∧ Shows d 29 2 (some s.cond.urgency) ∧ Shows d 31 2 (some s.cond.cH) ∧ Shows d 33 2 (some s.cond.cT)
        ∧ Shows d 35 2 (some s.cond.cU) ∧ Shows d 37 3 (some s.cond.runTime)
        ∧ Shows d 40 1 (some s.cond.closedWindow.toNat) ∧ Shows d 41 1 (some s.cond.rtEstimated.toNat)
        ∧ Shows d 42 1 (some s.cond.shortRun.toNat)
        ∧ (∀ i ch, allChannels[i]? = some ch → (∀ k, ([.notReady, .valid, .fault] : List ChannelStatus)[k]? =
              some (s.meas.get ch).status → Shows d (43 + 3 * i) 1 (some k))
            ∧ Shows d (44 + 3 * i) 2 (s.meas.get ch).filtered)
        ∧ Shows d 58 1 s.meas.settling ∧ Shows d 59 2 s.meas.decision
        ∧ Shows d 61 1 (some s.occupyingPeers) ∧ Shows d 62 1 (some s.aheadPeers) ∧ Shows d 63 1 (some s.nOn)
        ∧ Shows d 64 3 (some s.sumFlow) ∧ Shows d 67 1 (some s.peerHold.toNat)
        ∧ Shows d 68 1 (some s.link.linkFault.toNat) ∧ Shows d 69 1 (some s.link.dupAddress.toNat)
        ∧ (∀ k, ([.idle, .lower, .air, .airWater, .rinse, .refill, .abortPath] : List Activity)[k]?
            = some s.seq.activity → Shows d 70 1 (some k))
        ∧ Shows d 71 1 (s.seq.subStep.map subStepPlace) ∧ Shows d 72 3 (some s.seq.phaseElapsed)
        ∧ Shows d 75 2 (if s.seq.activity = .air ∨ s.rot.service = .start then some s.seq.blowerOn else none)
        ∧ Shows d 77 2 (if s.seq.activity = .rinse ∨ s.rot.service = .start then some s.seq.rinseElapsed else none)
        ∧ Shows d 79 2 (if s.seq.activity = .rinse ∨ s.rot.service = .start then some s.seq.suspTotal else none)
        ∧ Shows d 81 1 (s.seq.rinseWater.map rinseWaterPlace) ∧ Shows d 82 3 (some s.seq.washClock)
        ∧ Shows d 85 1 (s.seq.abortCause.map abortCausePlace) ∧ Shows d 86 1 (some s.seq.airSkipped.toNat)
        ∧ Shows d 87 1 (some s.seq.shortRinse.toNat) ∧ Shows d 88 1 (some s.seq.levelSlow.toNat)
        ∧ Shows d 89 3 (some s.statusContent.bound) ∧ Shows d 92 3 (some s.seq.fullBound)
        ∧ (∀ k, ([.idle, .closing, .opening, .running, .ending] : List RipeningStep)[k]? = some s.rip.step →
            Shows d 95 1 (some k))
        ∧ Shows d 96 2 (some s.rip.elapsed) ∧ Shows d 98 2 (some s.rip.hold)
        ∧ Shows d 100 1 (s.rip.basis.map basisPlace) ∧ Shows d 101 1 (some s.rip.unverified.toNat)
        ∧ (∀ i v, allValves[i]? = some v →
            (∀ k, ([.unknown, .closed, .opening, .opened, .closing, .fault] : List PosState)[k]? = some (s.valve v).pos →
              Shows d (102 + 5 * i) 1 (some k))
            ∧ Shows d (103 + 5 * i) 1 ((s.valve v).commanded.map valveEndPlace)
            ∧ Shows d (104 + 5 * i) 1 ((s.valve v).faultKind.map faultKindPlace)
            ∧ Shows d (105 + 5 * i) 1 (s.valve v).lastTravel ∧ Shows d (106 + 5 * i) 1 (some (s.valve v).slow.toNat))
        ∧ Shows d 132 1 (some s.drive.valveFault.toNat)
        ∧ (∀ k, ([.stopped, .pulsed, .continuous, .pulseEnded] : List BlowerMode)[k]? = some s.drive.blower.mode →
            Shows d 133 1 (some k))
        ∧ Shows d 134 1 (some s.drive.blower.output.toNat)
        ∧ Shows d 135 1 (s.drive.blower.pulse.map (fun p => p.on.toNat))
        ∧ Shows d 136 1 (s.drive.blower.pulse.map Pulse.elapsed)
        ∧ Shows d 137 1 (some s.drive.blower.feedbackSeen.toNat) ∧ Shows d 138 1 (some s.drive.blower.fault.toNat))
    ∧ (∀ e : PeerEntry,
       let d := s.entryData e
       let tail := 16 + Config.stationTimeBytes
       d.length = tail + 11 ∧ (Reply.ok (1 :: d)).content.length ≤ 255
        ∧ (∀ k, ([.fresh, .stale, .absent] : List Presence)[k]? = some e.presence → Shows d 0 1 (some k))
        ∧ Shows d 1 2 (some (min 65534 (s.now - e.lastHeard))) ∧ Shows d 3 1 e.senderS
        ∧ (∀ k, ([.start, .filtering, .queued, .claiming, .washing, .ripening, .standby, .isolated] :
              List ServiceState)[k]? = some e.state → Shows d 4 1 (some k))
        ∧ Shows d 5 3 (e.flags.map BitVec.toNat) ∧ Shows d 8 2 (some e.urgency) ∧ Shows d 10 3 (some e.runTime)
        ∧ Shows d 13 3 e.flow ∧ Shows d 16 Config.stationTimeBytes e.occupancyUntil
        ∧ Shows d tail 2 (e.claim.bind PeerClaim.serial) ∧ Shows d (tail + 2) 2 (e.claim.map PeerClaim.urgency)
        ∧ Shows d (tail + 4) 3 (e.claim.map PeerClaim.runTime)
        ∧ Shows d (tail + 7) 1 (e.claim.map (fun c => c.held.toNat))
        ∧ Shows d (tail + 8) 1 (e.claim.map (fun c => c.manual.toNat))
        ∧ Shows d (tail + 9) 1 (some (if (e.state = .claiming ∨ e.state = .washing) ∧ e.occupancyUntil ≠ none
            then 1 else 0))
        ∧ (∀ a, e.rank = some a → ∀ b, s.ownRank = some b → Shows d (tail + 10) 1 (some (a.beats b).toNat))
        ∧ (e.rank = none ∨ s.ownRank = none → Shows d (tail + 10) 1 none))

/-- WASH_NOW (R47, R51, R39, R28, R54). -/
def Obligations.WashNowByServiceState : Prop :=
  ∀ (tag : BitVec 4) (s : State), s.portFree → s.startup.stage ≠ .configFault →
    (s.rot.service = .filtering → ∃ t, exec (.washNow tag) s = .next t ∧ Quiet { s with port := t.port } t
      ∧ t.port = s.port.answering .washNow tag .accepted
      ∧ t.rot = { s.rot with service := .queued, manual := true, oversub := false }
      ∧ t.cond = { s.cond with urgency := 1000 } ∧ t.drive = s.drive ∧ t.seq = s.seq ∧ StatusAsked s t)
    ∧ (s.rot.service = .queued →
        exec (.washNow tag) s = .next { s with
          rot := { s.rot with manual := true }
          cond := { s.cond with urgency := 1000 }
          port := s.port.answering .washNow tag .accepted })
    ∧ (s.rot.service = .ripening →
        exec (.washNow tag) s = .next { s with
          rot := { s.rot with deferredWashNow := true }
          port := s.port.answering .washNow tag .acceptedDeferred })
    ∧ (s.rot.service ≠ .filtering → s.rot.service ≠ .queued → s.rot.service ≠ .ripening →
        exec (.washNow tag) s = .next { s with port := s.port.answering .washNow tag (.refused .state) })

/-- TAKE_OUT (R48, R51, R42, R43, R142): isolation into STANDBY, deferral in WASHING, ISOLATED without a new isolation
request. In CLAIMING a YIELD is offered and the STATUS of the change requested behind it (R54); in QUEUED an unstarted
CLAIM is withdrawn and a started one runs on, its claimed values cleared. That FTW is closed only where it is commanded
open, in ENDING too, is entry 26. -/
def Obligations.TakeOutByServiceState : Prop :=
  ∀ (tag : BitVec 4) (s : State), s.portFree → s.startup.stage ≠ .configFault →
    ((s.rot.service = .filtering ∨ s.rot.service = .queued ∨ s.rot.service = .claiming ∨ s.rot.service = .ripening) →
      ∃ t, exec (.takeOut tag) s = .next t ∧ Quiet { s with port := t.port } t
        ∧ t.port = s.port.answering .takeOut tag .accepted
        ∧ t.rot.service = .standby ∧ t.rot.manual = false ∧ t.rot.held = s.rot.held ∧ t.rot.recovery = s.rot.recovery
        ∧ (s.rot.service = .ripening → t.rot.deferredWashNow = false ∧ t.rip.step = .idle ∧ t.rip.basis = none
            ∧ t.rip.elapsed = 0 ∧ t.rip.hold = 0 ∧ t.rip.unverified = s.rip.unverified)
        ∧ (s.rot.service = .claiming →
            t.rot.claimed = none ∧ t.rot.claimFlags = none ∧ t.rot.settleDeadline = none
              ∧ ToldBehind (.yield s.rot.serial) s t
              ∧ (s.link.dupAddress = false → s.link.queue.length < 4 → Frame.yield s.rot.serial ∈ t.link.queue))
        ∧ (s.rot.service = .queued → ∀ k, s.rot.outstanding = some k → s.link.ordered →
            t.rot.claimed = none ∧ t.rot.claimFlags = none ∧ t.rot.settleDeadline = none
              ∧ (s.link.unstarted.any Frame.isClaim = true →
                  t.rot.outstanding = none ∧ t.link.queue.any Frame.isClaim = false)
              ∧ (s.link.unstarted.any Frame.isClaim = false →
                  t.rot.outstanding = some k ∧ t.link.started = s.link.started))
        ∧ (s.rot.service = .filtering ∨ s.rot.service = .ripening → StatusAsked s t)
        ∧ (t.valve .inf).commanded = some .closedEnd ∧ (t.valve .eff).commanded = some .closedEnd
        ∧ ((s.valve .ftw).commanded = some .openEnd → (t.valve .ftw).commanded = some .closedEnd)
        ∧ ((s.valve .ftw).commanded ≠ some .openEnd → t.valve .ftw = s.valve .ftw)
        ∧ t.valve .drn = s.valve .drn ∧ t.valve .ww = s.valve .ww ∧ t.valve .air = s.valve .air
        ∧ t.cond = { s.cond with cH := 0, cT := 0, cU := 0, urgency := 0 } ∧ t.seq = s.seq)
    ∧ (s.rot.service = .isolated → ∃ t, exec (.takeOut tag) s = .next t ∧ Quiet { s with port := t.port } t
        ∧ t.port = s.port.answering .takeOut tag .accepted ∧ t.rot.service = .standby ∧ t.drive = s.drive
        ∧ t.seq = s.seq ∧ t.rot.ripenFail = s.rot.ripenFail ∧ t.cond.shortRun = s.cond.shortRun ∧ StatusAsked s t)
    ∧ (s.rot.service = .standby →
        exec (.takeOut tag) s = .next { s with port := s.port.answering .takeOut tag .accepted })
    ∧ (s.rot.service = .washing →
        exec (.takeOut tag) s = .next { s with
          rot := { s.rot with deferredTakeOut := true }
          port := s.port.answering .takeOut tag .acceptedDeferred })
    ∧ (s.rot.service = .start →
        exec (.takeOut tag) s = .next { s with port := s.port.answering .takeOut tag (.refused .state) })

/-- RETURN (R49, R135, R136, R153): from STANDBY or ISOLATED into RIPENING with every clearable fault cleared and the
ripening entry begun. A FEEDBACK fault that remains on DRN, WW or AIR counts as its close ended; one on INF, EFF or FTW
isolates the station once the closes of the entry are requested and before anything is requested open (entry 19). The
gallery is told of the change to RIPENING as it happens, and of one to ISOLATED behind it (R54). Elsewhere RETURN is
refused. -/
def Obligations.ReturnBeginsRipening : Prop :=
  ∀ (tag : BitVec 4) (s : State), s.portFree → s.startup.stage ≠ .configFault →
    (s.out → (∀ v, (s.valve v).pos = .fault → ¬ ((s.switches v).closedMade = true ∧ (s.switches v).openMade = true)) →
      ∃ t, exec (.returnFilter tag) s = .next t ∧ Quiet { s with port := t.port } t
        ∧ t.port = s.port.answering .returnFilter tag .accepted
        ∧ t.rot.service = .ripening ∧ t.rot.held = false ∧ t.rot.recovery = false ∧ t.rot.ripenFail = false
        ∧ t.cond.shortRun = false ∧ t.cond.runTime = s.cond.runTime ∧ t.cond.baseline = s.cond.baseline
        ∧ t.cond.closedWindow = s.cond.closedWindow ∧ t.drive.valveFault = false ∧ t.seq = s.seq
        ∧ (∀ v, (s.valve v).pos = .fault → (t.valve v).faultKind = none ∧ (t.valve v).lastDrift = none)
        ∧ (∀ v, v ∈ ripeningCloses → (t.valve v).commanded = some .closedEnd)
        ∧ t.rip.basis = some (if s.meas.ch1.status = .valid then .verified else .onTime)
        ∧ (∃ c, ToldOf c s t ∧ t.link = s.link.takeStatus (.status c))
        ∧ (s.noValveFault → (∃ v ∈ ripeningCloses, (s.valve v).pos ≠ .closed) → t.rip.step = .closing)
        ∧ ((∀ v ∈ ripeningCloses, (s.valve v).pos = .closed) → (s.valve .inf).pos = .closed → s.noValveFault →
            (∀ v, (s.valve v).waiting = []) →
            t.rip.step = .opening ∧ (t.valve .inf).commanded = some .openEnd ∧ (t.valve .inf).pos = .opening
              ∧ (t.valve .ftw).commanded = some .openEnd))
    ∧ (s.out → (∃ v, (v = .inf ∨ v = .eff ∨ v = .ftw) ∧ (s.valve v).pos = .fault
          ∧ (s.switches v).closedMade = true ∧ (s.switches v).openMade = true) →
      ∃ t, exec (.returnFilter tag) s = .next t ∧ Quiet { s with port := t.port } t
        ∧ t.port = s.port.answering .returnFilter tag .accepted ∧ t.rot.service = .isolated
        ∧ t.rip.step = .idle ∧ t.rip.basis = none ∧ t.rip.elapsed = 0 ∧ t.rip.hold = 0 ∧ t.drive.valveFault = true
        ∧ t.rot.held = false ∧ t.rot.recovery = false ∧ t.rot.ripenFail = false ∧ t.cond.shortRun = false ∧ t.seq = s.seq
        ∧ (∃ c, c.state = .ripening ∧ c.urgency = 0 ∧ c.bound = 0
            ∧ t.link = (s.link.takeStatus (.status c)).takeStatus (.status t.statusContent))
        ∧ (∀ v, v ∈ ripeningCloses ∨ v = .inf → (t.valve v).commanded = some .closedEnd)
        ∧ (t.valve .ftw).commanded =
            (if (s.valve .ftw).commanded = some .openEnd then some .closedEnd else (s.valve .ftw).commanded)
        ∧ (∀ v, (s.valve v).pos = .closed → (t.valve v).pos = .closed)
        ∧ (∀ v ∈ [Valve.drn, .ww, .air],
            ((s.valve v).pos = .opened
              ∨ (s.valve v).pos = .fault ∧ (s.switches v).closedMade = false ∧ (s.switches v).openMade = true →
                (t.valve v).pos = .closing ∧ (t.valve v).drive = .energized ∧ (t.valve v).timer = 0)))
    ∧ (s.out → (∃ v, (v = .drn ∨ v = .ww ∨ v = .air) ∧ (s.valve v).pos = .fault
          ∧ (s.switches v).closedMade = true ∧ (s.switches v).openMade = true) →
        (∀ v, v = .inf ∨ v = .eff ∨ v = .ftw → (s.valve v).pos = .fault →
          ¬ ((s.switches v).closedMade = true ∧ (s.switches v).openMade = true)) →
      ∃ t, exec (.returnFilter tag) s = .next t ∧ Quiet { s with port := t.port } t
        ∧ t.port = s.port.answering .returnFilter tag .accepted ∧ t.rot.service = .ripening
        ∧ t.rip.step ≠ .idle ∧ t.drive.valveFault = true
        ∧ (∀ v, v ∈ ripeningCloses → (t.valve v).commanded = some .closedEnd)
        ∧ (∀ v, (s.valve v).pos = .fault → (s.switches v).closedMade = true → (s.switches v).openMade = true →
            (t.valve v).pos = .fault ∧ (t.valve v).faultKind = some .feedback)
        ∧ (∃ c, ToldOf c s t ∧ t.link = s.link.takeStatus (.status c))
        ∧ t.rip.basis = some (if s.meas.ch1.status = .valid then .verified else .onTime))
    ∧ (¬ s.out →
        exec (.returnFilter tag) s = .next { s with port := s.port.answering .returnFilter tag (.refused .state) })

/-- ABORT (R50, R128, R129): in a phase of a wash the abort path is taken with the cause OPERATOR, and ends at once
where every valve is closed, the STATUS behind its DONE (R54); in ABORT-PATH nothing changes; in WASHING the answer is
ACCEPTED, outside it refused STATE. -/
def Obligations.AbortTakesAbortPath : Prop :=
  ∀ (tag : BitVec 4) (s : State), s.portFree → s.startup.stage ≠ .configFault →
    (s.rot.service = .washing → s.seq.activity ≠ .idle → s.seq.activity ≠ .abortPath → s.noValveFault →
      (∃ v, (s.valve v).pos ≠ .closed) → ∃ t, exec (.abort tag) s = .next t ∧ Quiet { s with port := t.port } t
        ∧ t.port = s.port.answering .abort tag .accepted ∧ t.rot = s.rot ∧ t.cond = s.cond ∧ t.link = s.link
        ∧ t.rip = s.rip ∧ t.seq.activity = .abortPath ∧ t.seq.subStep = none ∧ t.seq.rinseWater = none
        ∧ t.seq.abortCause = some .operator ∧ t.seq.washClock = s.seq.washClock
        ∧ t.seq.airSkipped = s.seq.airSkipped ∧ t.seq.shortRinse = s.seq.shortRinse
        ∧ t.seq.levelSlow = s.seq.levelSlow ∧ t.seq.bound = s.cfg.travelMax + 1
        ∧ (∀ v, (t.valve v).commanded = some .closedEnd) ∧ t.drive.blower.mode = .stopped
        ∧ t.drive.blower.output = false ∧ t.drive.blower.pulse = none)
    ∧ (s.rot.service = .washing → s.seq.activity = .abortPath →
        exec (.abort tag) s = .next { s with port := s.port.answering .abort tag .accepted })
    ∧ (s.rot.service = .washing →
        ∃ t, exec (.abort tag) s = .next t ∧ t.port = s.port.answering .abort tag .accepted)
    ∧ (s.rot.service = .washing → s.seq.activity ≠ .idle → s.seq.activity ≠ .abortPath →
      (∀ v, (s.valve v).pos = .closed ∧ (s.valve v).waiting = []) → ∃ t, exec (.abort tag) s = .next t
        ∧ t.seq.activity = .idle
        ∧ t.rot.service = .isolated ∧ ToldBehind (.done .aborted s.seq.washClock) s t)
    ∧ (s.rot.service ≠ .washing →
        exec (.abort tag) s = .next { s with port := s.port.answering .abort tag (.refused .state) })

/-- HOLD and RESUME (R52, R53, R54, R91, R101): the flag, the STATUS that tells it, and what a change of the effective
hold does in QUEUED and CLAIMING, the change of RESUME too; in START both are refused STATE (R37). -/
def Obligations.HoldAndResume : Prop :=
  (∀ (tag : BitVec 4) (s : State), s.portFree → s.startup.stage ≠ .configFault → s.rot.service ≠ .start →
      (s.rot.holdAsserted = true →
          exec (.hold tag) s = .next { s with port := s.port.answering .hold tag .accepted })
      ∧ (s.rot.holdAsserted = false →
          exec (.resume tag) s =
            .next { s with port := s.port.answering .resume tag (.ok [if s.peerHold then 1 else 0]) })
      ∧ (s.rot.holdAsserted = false → s.unclaimed → ∃ t, exec (.hold tag) s = .next t
          ∧ t = { s with
            rot := { s.rot with holdAsserted := true }
            link := t.link
            port := s.port.answering .hold tag .accepted }
          ∧ StatusAsked s t)
      ∧ (s.rot.holdAsserted = true → s.unclaimed → ∃ t, exec (.resume tag) s = .next t
          ∧ t = { s with
            rot := { s.rot with holdAsserted := false }
            link := t.link
            port := s.port.answering .resume tag (.ok [if s.peerHold then 1 else 0]) }
          ∧ StatusAsked s t)
      ∧ (s.rot.holdAsserted = false → s.peerHold = false → s.rot.service = .queued → s.rot.outstanding = none →
          ∃ t, exec (.hold tag) s = .next t
            ∧ t = { s with
              rot := { s.rot with
                holdAsserted := true, lastRefusal := some .hold, predictedRate := s.predicted s.inService.toNat }
              link := t.link
              port := s.port.answering .hold tag .accepted })
      ∧ (s.rot.holdAsserted = false → s.peerHold = false → s.rot.service = .claiming →
          ∃ t, exec (.hold tag) s = .next t ∧ Quiet { s with port := t.port } t
            ∧ t.port = s.port.answering .hold tag .accepted ∧ t.rot.service = .queued ∧ t.rot.holdAsserted = true
            ∧ t.rot.lastRefusal = some .hold ∧ t.rot.claimed = none ∧ t.rot.claimFlags = none
            ∧ t.rot.settleDeadline = none ∧ t.drive = s.drive)
      ∧ (let told (on : Bool) := ({ s with rot := { s.rot with holdAsserted := on } }).requestStatus
         (s.rot.holdAsserted = false → s.peerHold = false → s.rot.service = .queued →
          ∃ t, exec (.hold tag) s = .next t
            ∧ AdmissionOutcome { told true with port := s.port.answering .hold tag .accepted } t)
         ∧ (s.rot.holdAsserted = true → s.peerHold = false →
          (s.rot.service = .queued → ∃ t, exec (.resume tag) s = .next t
            ∧ AdmissionOutcome { told false with port := s.port.answering .resume tag (.ok [0]) } t)
          ∧ (s.rot.service = .claiming → ∃ t, exec (.resume tag) s = .next t
            ∧ YieldOutcome { told false with port := s.port.answering .resume tag (.ok [0]) } t))
         ∧ (s.rot.holdAsserted = true → s.peerHold = true → s.rot.service = .queued ∨ s.rot.service = .claiming →
          exec (.resume tag) s =
            .next { told false with port := s.port.answering .resume tag (.ok [1]) })
         ∧ (s.rot.holdAsserted = false → s.peerHold = true → s.rot.service = .queued ∨ s.rot.service = .claiming →
          exec (.hold tag) s = .next { told true with port := s.port.answering .hold tag .accepted })))
  ∧ (∀ (tag : BitVec 4) (s : State), s.portFree → s.startup.stage ≠ .configFault → s.rot.service = .start →
        exec (.hold tag) s = .next { s with port := s.port.answering .hold tag (.refused .state) }
        ∧ exec (.resume tag) s = .next { s with port := s.port.answering .resume tag (.refused .state) })

/-- FORGET n in range (R84): an ABSENT entry without occupancy is removed, which takes its last flow out of the flow sum
and changes neither the count of occupancy nor the effective hold; a number without an entry is accepted, every other
entry is kept and the request refused STATE. -/
def Obligations.ForgetRemovesAbsent : Prop :=
  ∀ (tag : BitVec 4) (n : Byte) (s : State), s.portFree → s.startup.stage ≠ .configFault → n.toNat < s.cfg.nG →
    n.toNat ≠ s.ownNumber →
    (∀ e, s.peer n.toNat = some e → e.presence = .absent → e.occupancyUntil = none →
      ∃ t, exec (.forget tag n) s = .next t
        ∧ t = { s with peers := t.peers, port := s.port.answering (.forget n) tag .accepted }
        ∧ t.peer n.toNat = none ∧ (∀ m, m ≠ n.toNat → t.peer m = s.peer m)
        ∧ ((s.peers.map PeerEntry.number).Nodup →
            t.sumFlow + (if e.inService then e.flow.getD 0 else 0) = s.sumFlow ∧ t.nOn = s.nOn
              ∧ t.occupyingPeers = s.occupyingPeers ∧ t.effectiveHold = s.effectiveHold))
    ∧ (s.peer n.toNat = none → ∃ t, exec (.forget tag n) s = .next t
        ∧ t = { s with peers := t.peers, port := s.port.answering (.forget n) tag .accepted }
        ∧ ∀ m, t.peer m = s.peer m)
    ∧ (∀ e, s.peer n.toNat = some e → e.presence ≠ .absent ∨ e.occupancyUntil ≠ none →
        exec (.forget tag n) s = .next { s with port := s.port.answering (.forget n) tag (.refused .state) })

/-- RESTART (R170) and the end of its answer (R159): accepted outside WASHING with nothing else changed, and start-up
when the answer has been sent, with LOAD from the straps and the memory (R161, R162, R127). LOAD standing within the
command is entry 8. -/
def Obligations.RestartStartsAfresh : Prop :=
  (∀ (tag : BitVec 4) (s : State), s.portFree →
      (s.rot.service ≠ .washing →
        exec (.restart tag) s = .next { s with port := s.port.answering .restart tag .accepted })
      ∧ (s.rot.service = .washing →
        exec (.restart tag) s = .next { s with port := s.port.answering .restart tag (.refused .state) }))
    ∧ ∀ (tag : BitVec 4) (s : State), s.startup.memWrite = .none → s.pins.resetLine = false →
      s.port.processing = some ⟨.restart, tag⟩ → s.port.answer = some (Reply.accepted.toAnswer ⟨.restart, tag⟩) →
      ∃ t, exec .answerSent s = .next t ∧ t.loadedFrom s.pins.straps.toNat s.mem ∧ t.rot.service = .start
        ∧ t.peers = [] ∧ t.link.queue = [] ∧ t.port = ⟨none, none, none, [], none⟩ ∧ t.pins = s.pins
        ∧ t.pending = s.pending

/-- WRITE_CONFIG and RECORD_WRITE_END (R168, R184): the lock before the state, no answer until the write ends, and the
bytes that the write leaves. LOCK_CONFIG and LOCK_WRITE_END (R169, R185): refused when locked; the write of the locked
code, and LOCKED. -/
def Obligations.MemoryWriteRequests : Prop :=
  ((∀ (tag : BitVec 4) (record : List Byte) (s : State), record.length = 96 → s.portFree →
        (s.startup.locked = true → exec (.writeConfig tag record) s =
          .next { s with port := s.port.answering (.writeConfig record) tag (.refused .locked) })
        ∧ (s.startup.locked = false →
            s.startup.stage = .configFault ∨ (s.startup.stage = .running ∧ s.rot.service = .standby) →
            exec (.writeConfig tag record) s = .next { s with
              startup := { s.startup with memWrite := .record }
              port := { s.port with assembly := none, processing := some ⟨.writeConfig record, tag⟩, answer := none } })
        ∧ (s.startup.locked = false → s.startup.stage ≠ .configFault →
            s.startup.stage ≠ .running ∨ s.rot.service ≠ .standby →
            exec (.writeConfig tag record) s =
              .next { s with port := s.port.answering (.writeConfig record) tag (.refused .state) }))
      ∧ ∀ (tag : BitVec 4) (record : List Byte) (s : State), record.length = 96 → s.memoryCanonical →
        s.startup.memWrite = .record → s.port.processing = some ⟨.writeConfig record, tag⟩ →
        ∃ t, exec .recordWriteEnd s = .next t
          ∧ t = { s with
            mem := t.mem
            startup := { s.startup with memWrite := .none }
            port := { s.port with answer := some (Reply.accepted.toAnswer ⟨.writeConfig record, tag⟩) } }
          ∧ (∀ a, a < 96 → record[a]? = some (t.mem.read a)) ∧ t.mem.storedCrc = crcBytes record
          ∧ (∀ a, 98 ≤ a → a ≤ 126 → t.mem.read a = 0) ∧ (∀ a, 127 ≤ a → t.mem.read a = s.mem.read a)
          ∧ t.memoryCanonical)
  ∧ ((∀ (tag : BitVec 4) (s : State), s.portFree →
          (s.startup.locked = true →
            exec (.lockConfig tag) s = .next { s with port := s.port.answering .lockConfig tag (.refused .locked) })
          ∧ (s.startup.locked = false → exec (.lockConfig tag) s = .next { s with
              startup := { s.startup with memWrite := .lock }
              port := { s.port with assembly := none, processing := some ⟨.lockConfig, tag⟩, answer := none } }))
        ∧ ∀ (tag : BitVec 4) (s : State), s.memoryCanonical → s.startup.memWrite = .lock →
          s.port.processing = some ⟨.lockConfig, tag⟩ → ∃ t, exec .lockWriteEnd s = .next t
            ∧ t = { s with
              mem := t.mem
              startup := { s.startup with memWrite := .none, locked := true }
              port := { s.port with answer := some (Reply.accepted.toAnswer ⟨.lockConfig, tag⟩) } }
            ∧ t.mem.read 127 = 0x00 ∧ (∀ a, a ≠ 127 → t.mem.read a = s.mem.read a) ∧ t.mem.lockReads = true)

/-- ANSWER_SENT and OWED_REFUSAL_SENT (R174): owed refusals first, oldest first, each REFUSED BUSY; then the pending
request, taken as it would be on arriving at an idle port, the request being assembled apart. -/
def Obligations.PortServesInOrder : Prop :=
  (∀ (r : Request) (a : Answer) (s : State), s.port.processing = some r → s.port.answer = some a → r.kind ≠ .restart →
      (∀ o rest, s.port.owed = o :: rest → exec .answerSent s = .next { s with
        port := { s.port with processing := none, answer := some ((Reply.refused .busy).toAnswer o) } })
      ∧ (s.port.owed = [] → s.port.pendingReq = none → exec .answerSent s = .next { s with
        port := { s.port with processing := none, answer := none } })
      ∧ (∀ k tag, s.port.owed = [] → s.port.pendingReq = some ⟨k, tag⟩ → k.formed → s.startup.memWrite = .none →
        s.startup.stage ≠ .safe → s.startup.stage ≠ .load →
        ∃ t, exec (k.command tag) { s with
            port := { s.port with processing := none, pendingReq := none, answer := none } } = .next t
          ∧ exec .answerSent s = .next { t with port := { t.port with assembly := s.port.assembly } }))
    ∧ ∀ (o : Request) (a : Answer) (s : State), s.port.processing = none → s.port.answer = some a →
      (∀ o' rest, s.port.owed = o :: o' :: rest → exec .owedRefusalSent s = .next { s with
        port := { s.port with owed := o' :: rest, answer := some ((Reply.refused .busy).toAnswer o') } })
      ∧ (s.port.owed = [o] → s.port.pendingReq = none → exec .owedRefusalSent s = .next { s with
        port := { s.port with owed := [], answer := none } })
      ∧ (∀ k tag, s.port.owed = [o] → s.port.pendingReq = some ⟨k, tag⟩ → k.formed → s.startup.memWrite = .none →
        s.startup.stage ≠ .safe → s.startup.stage ≠ .load →
        ∃ t, exec (k.command tag) { s with
            port := { s.port with owed := [], pendingReq := none, answer := none } } = .next t
          ∧ exec .owedRefusalSent s = .next { t with port := { t.port with assembly := s.port.assembly } })

/-- REQUEST_CHARACTER (R172, R173): the characters of a whole request, one after another and whatever was being
assembled before, are the arrival of that request. That the character which completes it acts as its arrival is entry 6. -/
def Obligations.RequestCharactersArrive : Prop :=
  ∀ (k : ReqKind) (tag : BitVec 4) (s : State), k.formed → s.startup.stage ≠ .safe →
    runAll ((lineBits (Request.bytes ⟨k, tag⟩)).map Instr.requestCharacter) s =
      exec (k.command tag) { s with port := { s.port with assembly := none } }

/-! ## The gallery link -/

/-- R65, R74: what a request to produce a STATUS does, by what the queue holds. -/
def Obligations.StatusRequestByQueue : Prop :=
  ∀ (l : Link) (c : StatusContent),
    (l.dupAddress = true → l.takeStatus (.status c) = l)
    ∧ (∀ a b old, l.dupAddress = false → l.unstarted = a ++ Frame.status old :: b →
        (∀ f ∈ a ++ b, f.isStatus = false) →
        l.takeStatus (.status c) = { l with queue := l.started ++ a ++ Frame.status c :: b })
    ∧ (∀ old, l.dupAddress = false → (∀ f ∈ l.unstarted, f.isStatus = false) → l.started = [.status old] →
        l.takeStatus (.status c) = { l with statusDue := true })
    ∧ (l.dupAddress = false → (∀ f ∈ l.queue, f.isStatus = false) → l.queue.length < 4 →
        (l.takeStatus (.status c)).queue = l.queue ++ [.status c]
          ∧ (l.takeStatus (.status c)).statusDue = l.statusDue
          ∧ (l.takeStatus (.status c)).attempt = l.attempt
          ∧ (l.takeStatus (.status c)).accessWait = (if l.queue = [] then some 0 else l.accessWait)
          ∧ (l.queue = [] → (l.takeStatus (.status c)).waitFromQuiet = false)
          ∧ (l.queue ≠ [] → (l.takeStatus (.status c)).waitFromQuiet = l.waitFromQuiet))
    ∧ (l.dupAddress = false → (∀ f ∈ l.queue, f.isStatus = false) → 4 ≤ l.queue.length →
        l.takeStatus (.status c) = l)

/-- R63, R74: the placing of an offered class 0 frame, and what a discarded offer tells the owner of a CLAIM (R69,
R99). -/
def Obligations.ClassZeroOfferPlaced : Prop :=
  ∀ (f : Frame) (s : State), f.isStatus = false →
    (let class0 := s.link.unstarted.filter (fun g => !g.isStatus)
     let statuses := s.link.unstarted.filter Frame.isStatus
     let refusedAtOnce := s.link.dupAddress = true ∨ (f.isClaim = true ∧ s.link.queue.any Frame.isClaim = true)
       ∨ (4 ≤ s.link.queue.length ∧ statuses = [])
     (¬ refusedAtOnce → s.link.queue.length < 4 →
        (s.offer f).link.queue = s.link.started ++ class0 ++ f :: statuses ∧ (s.offer f).rot = s.rot)
      ∧ (¬ refusedAtOnce → 4 ≤ s.link.queue.length →
        (s.offer f).link.queue = s.link.started ++ class0 ++ [f] ∧ (s.offer f).rot = s.rot)
      ∧ (refusedAtOnce → f.isClaim = false → s.offer f = s)
      ∧ (∀ c, refusedAtOnce → f = .claim c → s.rot.outstanding = some c.serial → s.rot.service = .queued →
        s.rot.claimed ≠ none → s.offer f = { s with
          rot := { s.rot with outstanding := none, claimed := none, lastRefusal := some .silent } }))
    ∧ s.offer f = { s with link := (s.offer f).link, rot := (s.offer f).rot }
    ∧ (s.offer f).link.attempt = s.link.attempt ∧ (s.offer f).link.linkFault = s.link.linkFault

/-- STATUS_TICK outside QUEUED and CLAIMING (R70): the count starts again, a STATUS is requested, nothing else changes.
What a STATUS formed now carries (R59): state and phase, the sixteen flags at their bits, urgency, flow, run time, S and
the remaining-wash bound; and the twelve payload bytes of a STATUS (R180). -/
def Obligations.StatusTickAsksStatus : Prop :=
  (∀ (s : State) (k : Nat), s.link.statusTick = some k → s.cfg.s ≤ k + 1 → s.unclaimed →
    ∃ t, exec .statusTick s = .next t ∧ t = { s with link := t.link } ∧ t.link.statusTick = some 0
      ∧ StatusAsked { s with link := { s.link with statusTick := some 0 } } t)
  ∧ (∀ s : State,
     let c := s.statusContent
     c.state = s.rot.service ∧ c.urgency = s.cond.urgency ∧ c.runTime = s.cond.runTime ∧ c.interval = s.cfg.s
      ∧ c.flow = s.meas.ch3.filtered.getD 0 ∧ (s.rot.service ≠ .washing → c.phase = 0)
      ∧ (∀ k, ([.idle, .lower, .air, .airWater, .rinse, .refill, .abortPath] : List Activity)[k]?
          = some s.seq.activity → s.rot.service = .washing → c.phase = k)
      ∧ (∀ d, s.rot.settleDeadline = some d → s.rot.service = .claiming →
          c.bound = min 65535 (d - s.now + s.seq.fullBound))
      ∧ (s.rot.service = .washing → c.bound = s.seq.bound)
      ∧ (s.rot.service ≠ .claiming → s.rot.service ≠ .washing → c.bound = 0)
      ∧ c.flags.getLsbD 15 = decide ((s.valve .eff).commanded = some .openEnd) ∧ c.flags.getLsbD 14 = s.rot.held
      ∧ c.flags.getLsbD 13 = s.rot.manual ∧ c.flags.getLsbD 12 = s.rot.recovery
      ∧ c.flags.getLsbD 11 = s.rot.holdAsserted ∧ c.flags.getLsbD 10 = s.rot.oversub
      ∧ c.flags.getLsbD 9 = s.cond.rtEstimated ∧ c.flags.getLsbD 8 = s.seq.airSkipped
      ∧ c.flags.getLsbD 7 = s.seq.shortRinse ∧ c.flags.getLsbD 6 = s.seq.levelSlow
      ∧ c.flags.getLsbD 5 = s.rip.unverified ∧ c.flags.getLsbD 4 = s.drive.valveFault
      ∧ c.flags.getLsbD 3 = s.meas.channelFault ∧ c.flags.getLsbD 2 = s.cond.shortRun
      ∧ c.flags.getLsbD 1 = s.rot.ripenFail ∧ c.flags.getLsbD 0 = s.link.linkFault)
  ∧ (∀ c : StatusContent, (Frame.status c).inRange = true →
     let p := (Frame.status c).payload
     p.length = 12
      ∧ (∀ k, ([.start, .filtering, .queued, .claiming, .washing, .ripening, .standby, .isolated] :
            List ServiceState)[k]? = some c.state → fieldAt p 0 1 = k * 16 + c.phase)
      ∧ fieldAt p 1 2 = c.flags.toNat ∧ fieldAt p 3 2 = c.urgency ∧ fieldAt p 5 2 = c.flow
      ∧ fieldAt p 7 2 = c.runTime ∧ fieldAt p 9 1 = c.interval ∧ fieldAt p 10 2 = c.bound)

/-- ACCESS_WAIT_END and ATTEMPT_ABANDONED (R67 to R69): the wait counts to the gap of the head frame for the own number,
24 + 2 × (class × 16 + own number) bit times, and an attempt begins when it has reached it and not before; the attempts
of the head frame are counted, each but the eighth is followed by another wait, and the eighth discards the frame and
sets link-fault. The discarded notice of a CLAIM (R69, R99) ends the outstanding CLAIM of its serial, in QUEUED with the
claimed values cleared and the last refusal reason SILENT. FRAME_SENT of a STATUS, a YIELD or a DONE (R69, R65): the
frame leaves the queue and link-fault clears. As a STATUS leaves the queue, sent or discarded, a STATUS that was due
behind it is formed at that moment at the end of the queue. That ACCESS_WAIT_END
says the line was quiet for the whole gap is entry 2, and that an attempt leaves no partial assembly entry 6. -/
def Obligations.HeadFrameAttempts : Prop :=
  (∀ (f : Frame) (rest : List Frame) (s : State), s.link.queue = f :: rest →
      (∀ n, s.link.accessWait = some n →
        s.link.gap s.ownNumber = 24 + 2 * ((if f.isStatus then 1 else 0) * 16 + s.ownNumber)
        ∧ (n < s.link.gap s.ownNumber → s.link.tryAttempt s.ownNumber = s.link)
        ∧ (s.link.gap s.ownNumber ≤ n → s.link.tryAttempt s.ownNumber = { s.link with
          attempt := some (s.link.attempt.getD 0 + 1), accessWait := none, assembly := none, echoed := 0
          waitFromQuiet := false })
        ∧ exec .accessWaitEnd s = .next { s with
          link := { s.link with
            attempt := some (s.link.attempt.getD 0 + 1), accessWait := none, assembly := none, echoed := 0
            waitFromQuiet := false } })
      ∧ (∀ n, s.link.attempt = some n → s.link.accessWait = none → n < 8 →
        exec .attemptAbandoned s =
          .next { s with link := { s.link with accessWait := some 0, echoed := 0, waitFromQuiet := false } })
      ∧ (s.link.attempt = some 8 → s.link.accessWait = none → f.isClaim = false →
        (f.isStatus = true → s.link.statusDue = false) → exec .attemptAbandoned s = .next { s with
          link := { s.link with
            queue := rest, attempt := none, linkFault := true, echoed := 0, waitFromQuiet := false
            accessWait := if rest = [] then none else some 0 } })
      ∧ (s.link.attempt = some 8 → s.link.accessWait = none → f.isStatus = true → s.link.statusDue = true →
        s.link.dupAddress = false → s.link.ordered → ∃ t, exec .attemptAbandoned s = .next t
          ∧ t = { s with
            link := { s.link with
              queue := rest ++ [.status t.statusContent], attempt := none, linkFault := true, statusDue := false
              echoed := 0, waitFromQuiet := false, accessWait := some 0 } })
      ∧ (∀ c, f = .claim c → s.link.attempt = some 8 → s.link.accessWait = none →
        (let popped := { s.link with
           queue := rest, attempt := none, linkFault := true, echoed := 0, waitFromQuiet := false
           accessWait := if rest = [] then none else some 0 }
         (s.rot.outstanding = some c.serial → s.rot.service = .queued → s.rot.claimed ≠ none →
            exec .attemptAbandoned s = .next { s with
              link := popped
              rot := { s.rot with outstanding := none, claimed := none, lastRefusal := some .silent } })
          ∧ (s.rot.outstanding = some c.serial → s.rot.service ≠ .queued ∨ s.rot.claimed = none →
            exec .attemptAbandoned s = .next { s with link := popped, rot := { s.rot with outstanding := none } })
          ∧ (s.rot.outstanding ≠ some c.serial → exec .attemptAbandoned s = .next { s with link := popped }))))
  ∧ (∀ (f : Frame) (rest : List Frame) (s : State), s.link.queue = f :: rest → s.link.attempt ≠ none →
        s.link.accessWait = none → f.isClaim = false →
        (f.isStatus = false ∨ s.link.statusDue = false → exec .frameSent s = .next { s with
          link := { s.link with
            queue := rest, attempt := none, linkFault := false, echoed := 0, waitFromQuiet := false
            accessWait := if rest = [] then none else some 0 } })
        ∧ (f.isStatus = true → s.link.statusDue = true → s.link.dupAddress = false → s.link.ordered →
            ∃ t, exec .frameSent s = .next t ∧ t = { s with link := t.link } ∧ t.link.statusDue = false
              ∧ t.link.linkFault = false ∧ t.link.attempt = none ∧ t.link.queue = rest ++ [.status t.statusContent]))

/-- FRAME_SENT of the own CLAIM (R100): QUEUED with the claim still wanted enters CLAIMING with the settle deadline 2 ×
S ahead, the gallery is told, and the yield conditions are tested at once (R101, R102): where none holds the station
stays CLAIMING, and where the effective hold stands or ahead-occupying is at or above W it yields. Elsewhere a YIELD of
the same serial is offered. -/
def Obligations.ClaimSentEntersClaiming : Prop :=
  ∀ (c : ClaimContent) (rest : List Frame) (s : State), s.link.queue = .claim c :: rest → s.link.attempt ≠ none →
    s.link.accessWait = none → s.rot.outstanding = some c.serial → s.link.dupAddress = false →
    (s.rot.service = .queued → s.rot.claimed ≠ none → s.effectiveHold = false → s.occupyingPeers < s.cfg.w →
      ∃ t, exec .frameSent s = .next t ∧ Quiet s t ∧ t.rot.service = .claiming ∧ t.rot.outstanding = none
        ∧ t.rot.claimed = s.rot.claimed ∧ t.rot.serial = s.rot.serial
        ∧ t.rot.claimFlags = some ⟨c.held, c.manual⟩ ∧ t.rot.settleDeadline = some (s.now + 2 * s.cfg.s)
        ∧ t.rot.held = s.rot.held ∧ t.rot.manual = s.rot.manual ∧ t.drive = s.drive ∧ t.seq = s.seq
        ∧ t.link.linkFault = false ∧ Frame.claim c ∉ t.link.started)
    ∧ (∀ k, s.rot.claimed = some k → s.rot.service = .queued →
      (let sent := { s with
         link := { s.link with
           queue := rest, attempt := none, linkFault := false, echoed := 0, waitFromQuiet := false
           accessWait := if rest = [] then none else some 0 }
         rot := { s.rot with
           outstanding := none, claimFlags := some ⟨c.held, c.manual⟩
           settleDeadline := some (s.now + 2 * s.cfg.s) } }
       let claiming := sent.changeState .claiming
       Quiet sent claiming ∧ StatusAsked sent claiming ∧ claiming.drive = s.drive ∧ claiming.seq = s.seq
         ∧ claiming.rot = { sent.rot with service := .claiming, oversub := decide (s.cfg.w < s.occupyingPeers + 1) }
         ∧ ∃ t, exec .frameSent s = .next t ∧ YieldOutcome claiming t
           ∧ (s.effectiveHold = true → t.rot.service = .queued ∧ t.rot.lastRefusal = some .hold ∧ t.rot.claimed = none)
           ∧ (s.effectiveHold = false →
              (let ahead := s.washingPeers + s.peers.countP (fun e => e.occupying && e.state == .claiming
                 && e.rank.any (fun a => a.beats ⟨c.held, k.urgency, k.runTime, s.ownNumber⟩))
               (s.cfg.w ≤ ahead →
                  t.rot.service = .queued ∧ t.rot.lastRefusal = some .slots ∧ t.rot.claimed = none)
                ∧ (ahead < s.cfg.w → t = claiming)))))
    ∧ (s.rot.service ≠ .queued ∨ s.rot.claimed = none → rest.length < 4 →
      ∃ t, exec .frameSent s = .next t ∧ t = { s with link := t.link, rot := { s.rot with outstanding := none } }
        ∧ Frame.yield c.serial ∈ t.link.queue)

/-- RECEIVED_CHARACTER (R71, R56): the eleven bits of a character in their order; the characters of a whole frame, one
after another and whatever was being assembled before, are the reception of that frame. While the station drives a frame
they are its echo (R68, R56, R57, R59): the first carries the frame's kind and the own number with the marker bit set,
each is compared in all eleven bits with the character driven, one that matches is counted, the last match is FRAME_SENT
and the first mismatch ATTEMPT_ABANDONED. That the character which completes a frame acts as its reception is entry 6. -/
def Obligations.FrameCharactersArrive : Prop :=
  (∀ c : LineChar, c.bits.getLsbD 0 = false ∧ (∀ i, i < 8 → c.bits.getLsbD (i + 1) = c.data.getLsbD i)
      ∧ c.bits.getLsbD 9 = c.marker ∧ c.bits.getLsbD 10 = !c.framingError)
  ∧ (∀ (lead len : Byte) (rest : List Byte) (s : State), len.toNat ≤ 12 → rest.length = len.toNat + 2 → s.link.ordered →
      s.link.transmitting = false →
      runAll ((lineBits (lead :: len :: rest)).map Instr.receivedCharacter) s =
        exec (.frameReceived (lead :: len :: rest)) s)
  ∧ (∀ (f : Frame) (rest : List Frame) (s : State), s.link.queue = f :: rest → s.link.attempt ≠ none →
      s.link.accessWait = none → s.link.receiver = true →
      (∀ k, ([.status, .claim, .yield, .done] : List FrameKind)[k]? = some f.kind →
        (s.driven f).head? = some (LineChar.bits ⟨BitVec.ofNat 8 ((k + 1) * 16 + s.ownNumber), true, false⟩))
      ∧ (∀ (byte : Byte) (bits : LineBits), (f.bytes s.ownNumber)[s.link.echoed]? = some byte →
        (let driven := LineChar.bits ⟨byte, decide (s.link.echoed = 0), false⟩
         let last := s.link.echoed + 1 = (f.bytes s.ownNumber).length
         (bits = driven → ¬ last → exec (.receivedCharacter bits) s =
            .next { s with link := { s.link with echoed := s.link.echoed + 1 } })
          ∧ (bits = driven → last → exec (.receivedCharacter bits) s = exec .frameSent s)
          ∧ (bits ≠ driven → exec (.receivedCharacter bits) s = exec .attemptAbandoned s)))
      ∧ (s.link.echoed = 0 →
        runAll ((lineBits (f.bytes s.ownNumber)).map Instr.receivedCharacter) s = exec .frameSent s))

/-- What is discarded leaves no trace. On the link (R71, R72): a framing error, a length above 12 and a quiet line
discard the partial assembly, the receiver disabled reads nothing, and a frame whose check does not match, whose code
names no kind, whose length is not its kind's or whose number is at or above N_g changes no block. A good frame whose
state, urgency, status interval or outcome lies outside its range (R76) changes nothing in the peer table: the rotation
controller is told only that a frame was heard, on which QUEUED with a CLAIM outstanding evaluates and CLAIMING tests
(R91, R101), and no other block changes. On the port (R173, R160): a quiet line, a framing error and a wrong length
discard the partial request, a lead character begins anew, a whole request whose check does not match or whose length is
not its kind's comes to nothing, and SAFE discards characters. The access wait that starts again after each character,
and that eleven bits with the start bit high are no character, are entry 6, and that a quiet line within a frame raises
a wait that started with it to 23, and no other, is entry 2. -/
def Obligations.DiscardsLeaveNoTrace : Prop :=
  ((∀ (c : LineChar) (s : State),
        exec .assemblyQuietTimeout s = .next { s with
          link := { s.link with
            assembly := none
            accessWait := if s.link.assembly ≠ none ∧ s.link.waitFromQuiet = true
              then s.link.accessWait.map (max 23) else s.link.accessWait } }
        ∧ (s.link.receiver = false → ∀ bits, exec (.receivedCharacter bits) s = .next s)
        ∧ (s.link.transmitting = false → ∀ bits : LineBits, bits.getLsbD 0 = true →
            exec (.receivedCharacter bits) s = .next s)
        ∧ (s.link.receiver = true → s.link.transmitting = false →
            let read (a : Option (List Byte)) := exec (.receivedCharacter c.bits) s = .next { s with
              link := { s.link with
                assembly := a
                accessWait := if s.link.queue = [] then none else some 0
                waitFromQuiet := decide (s.link.queue ≠ []) } }
            (c.framingError = true → read none)
            ∧ (∀ lead, c.framingError = false → c.marker = false → s.link.assembly = some [lead] → 12 < c.data.toNat →
              read none)
            ∧ (c.framingError = false → c.marker = false → s.link.assembly = none → read none)
            ∧ (c.framingError = false → c.marker = true → read (some [c.data]))))
    ∧ (∀ (bytes : List Byte) (s : State), s.link.receiver = false ∨ s.link.transmitting = true →
          exec (.frameReceived bytes) s = .next s)
    ∧ (∀ s : State, s.link.receiver = true → s.link.transmitting = false →
          (∀ bytes : List Byte, 4 ≤ bytes.length →
            bytes.drop (bytes.length - 2) ≠ crcBytes (bytes.take (bytes.length - 2)) →
            exec (.frameReceived bytes) s = .next { s with link := s.link.heard })
          ∧ (∀ (lead len : Byte) (rest : List Byte), rest.length = len.toNat + 2 →
            (¬ (1 ≤ lead.toNat / 16 ∧ lead.toNat / 16 ≤ 4)
              ∨ ∃ k, ([12, 8, 1, 3] : List Nat)[lead.toNat / 16 - 1]? = some k ∧ len.toNat ≠ k) →
            exec (.frameReceived (lead :: len :: rest)) s =
              .next { s with link := s.link.heard })
          ∧ ∀ (f : Frame) (n : Nat), f.inRange = true → s.cfg.nG ≤ n → n < 16 →
            exec (.frameReceived (f.bytes n)) s = .next { s with link := s.link.heard }))
  ∧ (∀ (lead len : Byte) (payload : List Byte) (s : State), payload.length = len.toNat → lead.toNat % 16 < s.cfg.nG →
        lead.toNat % 16 ≠ s.ownNumber → s.link.receiver = true → s.link.transmitting = false →
        (let state := fieldAt payload 0 1 / 16
         let interval := fieldAt payload 9 1
         lead.toNat / 16 = 1 ∧ len.toNat = 12
             ∧ (state = 0 ∨ 7 < state ∨ 1000 < fieldAt payload 3 2 ∨ interval = 0 ∨ 10 < interval)
           ∨ lead.toNat / 16 = 2 ∧ len.toNat = 8 ∧ 1000 < fieldAt payload 0 2
           ∨ lead.toNat / 16 = 4 ∧ len.toNat = 3 ∧ 2 < fieldAt payload 0 1) →
        ∃ t, exec (.frameReceived (lead :: len :: payload ++ crcBytes (lead :: len :: payload))) s = .next t
          ∧ t.peers = s.peers
          ∧ (let b := { s with link := s.link.heard }
             (s.unclaimed ∨ s.rot.service = .queued ∧ s.rot.outstanding = none → t = b)
             ∧ (s.rot.service = .queued → s.rot.outstanding ≠ none → AdmissionOutcome b t)
             ∧ (s.rot.service = .claiming → YieldOutcome b t)))
  ∧ (∀ (c : LineChar) (s : State),
        exec .portQuietTimeout s = .next { s with port := { s.port with assembly := none } }
        ∧ (s.startup.stage ≠ .safe → c.framingError = true →
            exec (.requestCharacter c.bits) s = .next { s with port := { s.port with assembly := none } })
        ∧ (s.startup.stage ≠ .safe → c.framingError = false → c.marker = true →
            exec (.requestCharacter c.bits) s = .next { s with port := { s.port with assembly := some [c.data] } })
        ∧ (∀ lead, s.startup.stage ≠ .safe → c.framingError = false → c.marker = false → s.port.assembly = some [lead] →
            requestLength (lead.toNat / 16) ≠ some c.data.toNat →
            exec (.requestCharacter c.bits) s = .next { s with port := { s.port with assembly := none } })
        ∧ (∀ bits : LineBits, s.startup.stage = .safe ∨ bits.getLsbD 0 = true →
            exec (.requestCharacter bits) s = .next s))
  ∧ (∀ (lead len : Byte) (rest : List Byte) (s : State), s.startup.stage ≠ .safe → rest.length = len.toNat + 2 →
        requestLength (lead.toNat / 16) ≠ some len.toNat
          ∨ rest.drop len.toNat ≠ crcBytes (lead :: len :: rest.take len.toNat) →
        runAll ((lineBits (lead :: len :: rest)).map Instr.requestCharacter) s =
          .next { s with port := { s.port with assembly := none } })

/-- FRAME_RECEIVED of the own number (R73, R110): duplicate-address is set, the queue emptied, the due mark cleared, the
wait stopped; CLAIMING yields with SILENT. An outstanding CLAIM anywhere in the queue ends (R99): in QUEUED with its
claim still wanted with SILENT, elsewhere without more; where the queue holds no such CLAIM and the station is not
CLAIMING the rotation controller's record stays. -/
def Obligations.OwnNumberHeardSilences : Prop :=
  ∀ (f : Frame) (s : State), f.inRange = true → s.cfg.nG ≤ 16 → s.ownNumber < s.cfg.nG → s.link.receiver = true →
    s.link.transmitting = false → s.link.dupAddress = false →
    ∃ t, exec (.frameReceived (f.bytes s.ownNumber)) s = .next t ∧ Quiet s t ∧ t.link.dupAddress = true
      ∧ t.link.queue = [] ∧ t.link.attempt = none ∧ t.link.statusDue = false ∧ t.link.accessWait = none
      ∧ t.link.receiver = true ∧ t.link.linkFault = s.link.linkFault ∧ t.drive = s.drive ∧ t.seq = s.seq
      ∧ (s.rot.service ≠ .claiming → (∀ c, Frame.claim c ∈ s.link.queue → s.rot.outstanding ≠ some c.serial) →
          t.rot = s.rot)
      ∧ (s.rot.service = .claiming → t.rot.service = .queued ∧ t.rot.lastRefusal = some .silent
          ∧ t.rot.claimed = none ∧ t.rot.claimFlags = none ∧ t.rot.settleDeadline = none)
      ∧ (∀ c, Frame.claim c ∈ s.link.queue → s.rot.outstanding = some c.serial →
          (s.rot.service = .queued → s.rot.claimed ≠ none → t.rot = { s.rot with
            outstanding := none, claimed := none, lastRefusal := some .silent })
          ∧ (s.unclaimed ∨ s.rot.service = .queued ∧ s.rot.claimed = none →
            t.rot = { s.rot with outstanding := none })
          ∧ (s.rot.service = .claiming → t.rot.outstanding = none))

/-- The frame encoding (R57, R58, R180, R181): what a station sends of a frame with its fields in range, a station of
the same gallery reads back, every field of it. -/
def Obligations.FrameEncodingRoundTrip : Prop :=
  ∀ (f : Frame) (nG n : Nat), f.inRange = true → n < nG → nG ≤ 16 →
    goodFrame nG (f.bytes n) = some ⟨f.kind, n, f.payload⟩ ∧ readPayload f.kind f.payload = some f.heard
      ∧ (f.bytes n).length = f.kind.payloadLength + 4

/-! ## The peer table -/

/-- FRAME_RECEIVED of a STATUS (R76 to R78): in every service state the entry takes every field the STATUS carries,
FRESH and heard now; a claim is kept with its serial, made without one, or cleared. In WASHING oversub says whether the
occupying peers and one exceed W with the frame recorded (R107). What QUEUED and CLAIMING make of it is stated with
admission and claims, and a STATUS out of range (R76) in DiscardsLeaveNoTrace. -/
def Obligations.StatusFrameRecorded : Prop :=
  ∀ (c : StatusContent) (n : Nat) (s : State), (Frame.status c).inRange = true → s.cfg.nG ≤ 16 → n < s.cfg.nG →
    n ≠ s.ownNumber → s.link.receiver = true → s.link.transmitting = false →
    ∃ t, exec (.frameReceived ((Frame.status c).bytes n)) s = .next t ∧ ∃ e, t.peer n = some e
      ∧ e.presence = .fresh ∧ e.lastHeard = s.now ∧ e.state = c.state ∧ e.flags = some c.flags
      ∧ e.urgency = c.urgency ∧ e.runTime = c.runTime ∧ e.flow = some c.flow ∧ e.senderS = some c.interval
      ∧ e.occupancyUntil =
        (if c.state = .claiming ∨ c.state = .washing then some (s.now + c.bound) else none)
      ∧ (c.state ≠ .claiming → e.claim = none)
      ∧ (∀ old, s.peer n = some old → c.state = .claiming → old.state = .claiming → ∀ k, old.claim = some k →
          e.claim = some k)
      ∧ (c.state = .claiming → s.peer n = none → e.claim = some ⟨none, c.urgency, c.runTime,
          c.flags.getLsbD 14, c.flags.getLsbD 13⟩)
      ∧ (∀ old, s.peer n = some old → c.state = .claiming → old.state ≠ .claiming →
          e.claim = some ⟨none, c.urgency, c.runTime, c.flags.getLsbD 14, c.flags.getLsbD 13⟩)
      ∧ (∀ m, m ≠ n → t.peer m = s.peer m)
      ∧ Quiet { s with peers := t.peers } t ∧ t.drive = s.drive ∧ t.seq = s.seq
      ∧ (s.unclaimed → t = { s with
          peers := t.peers
          link := s.link.heard
          rot := { s.rot with oversub := t.rot.oversub } })
      ∧ (s.rot.service = .washing → (t.rot.oversub = true ↔ s.cfg.w < t.occupyingPeers + 1))
      ∧ (s.unclaimed → s.rot.service ≠ .washing → t.rot.oversub = false)

/-- FRAME_RECEIVED of a CLAIM (R79), in every service state: the claim with its serial, CLAIMING, and the occupancy it
announces; flags, flow and the sender's S stay, and are absent in a new entry. In WASHING oversub follows (R107). -/
def Obligations.ClaimFrameRecorded : Prop :=
  ∀ (c : ClaimContent) (n : Nat) (s : State), (Frame.claim c).inRange = true → s.cfg.nG ≤ 16 → n < s.cfg.nG →
    n ≠ s.ownNumber → s.link.receiver = true → s.link.transmitting = false →
    ∃ t, exec (.frameReceived ((Frame.claim c).bytes n)) s = .next t ∧ ∃ e, t.peer n = some e
      ∧ e.presence = .fresh ∧ e.lastHeard = s.now ∧ e.state = .claiming
      ∧ e.claim = some ⟨some c.serial, c.urgency, c.runTime, c.held, c.manual⟩ ∧ e.urgency = c.urgency
      ∧ e.runTime = c.runTime ∧ e.occupancyUntil = some (s.now + c.bound)
      ∧ (∀ old, s.peer n = some old →
          e.flags = old.flags ∧ e.flow = old.flow ∧ e.senderS = old.senderS)
      ∧ (s.peer n = none → e.flags = none ∧ e.flow = none ∧ e.senderS = none)
      ∧ (∀ m, m ≠ n → t.peer m = s.peer m)
      ∧ Quiet { s with peers := t.peers } t ∧ t.drive = s.drive ∧ t.seq = s.seq
      ∧ (s.unclaimed → t = { s with
          peers := t.peers
          link := s.link.heard
          rot := { s.rot with oversub := t.rot.oversub } })
      ∧ (s.rot.service = .washing → (t.rot.oversub = true ↔ s.cfg.w < t.occupyingPeers + 1))
      ∧ (s.unclaimed → s.rot.service ≠ .washing → t.rot.oversub = false)

/-- FRAME_RECEIVED of a YIELD and of a DONE (R80, R81), in every service state: a YIELD withdraws the claim it names; a
DONE ends the wash; from a station without an entry neither makes one. In WASHING oversub follows (R107). -/
def Obligations.YieldAndDoneRecorded : Prop :=
  ∀ (n : Nat) (s : State), s.cfg.nG ≤ 16 → n < s.cfg.nG → n ≠ s.ownNumber → s.link.receiver = true →
    s.link.transmitting = false →
    (let kept (t : State) := (∀ m, m ≠ n → t.peer m = s.peer m) ∧ Quiet { s with peers := t.peers } t
       ∧ t.drive = s.drive ∧ t.seq = s.seq
       ∧ (s.unclaimed → t = { s with
          peers := t.peers
          link := s.link.heard
          rot := { s.rot with oversub := t.rot.oversub } })
       ∧ (s.rot.service = .washing → (t.rot.oversub = true ↔ s.cfg.w < t.occupyingPeers + 1))
       ∧ (s.unclaimed → s.rot.service ≠ .washing → t.rot.oversub = false)
     (∀ old, s.peer n = some old → ∀ k, old.claim = some k → old.state = .claiming → ∀ serial, serial ≤ 255 →
      (k.serial = some serial ∨ k.serial = none) →
      ∃ t, exec (.frameReceived ((Frame.yield serial).bytes n)) s = .next t ∧ kept t
        ∧ t.peer n = some { old with
          presence := .fresh, lastHeard := s.now, state := .queued, occupancyUntil := none, claim := none })
    ∧ (∀ old, s.peer n = some old → ∀ serial, serial ≤ 255 →
      (old.state ≠ .claiming ∨ ∀ k, old.claim = some k → k.serial ≠ some serial ∧ k.serial ≠ none) →
      ∃ t, exec (.frameReceived ((Frame.yield serial).bytes n)) s = .next t ∧ kept t
        ∧ t.peer n = some { old with presence := .fresh, lastHeard := s.now })
    ∧ (∀ old, s.peer n = some old → ∀ outcome duration, duration ≤ 65535 →
      ∃ t, exec (.frameReceived ((Frame.done outcome duration).bytes n)) s = .next t ∧ kept t
        ∧ t.peer n = some { old with
          presence := .fresh, lastHeard := s.now, urgency := 0, flow := some 0, occupancyUntil := none, claim := none
          state := if outcome = .complete then .ripening else .isolated
          flags := old.flags.map clearInService })
    ∧ (s.peer n = none → ∀ serial, serial ≤ 255 → ∀ outcome duration, duration ≤ 65535 →
      (∃ t, exec (.frameReceived ((Frame.yield serial).bytes n)) s = .next t ∧ kept t ∧ t.peers = s.peers)
        ∧ ∃ t, exec (.frameReceived ((Frame.done outcome duration).bytes n)) s = .next t ∧ kept t
          ∧ t.peers = s.peers))

/-- PEER_AGING (R82): in every service state FRESH past 3 × S becomes STALE, STALE past 10 × S ABSENT, on 10 s where the
sender's S is absent; nothing else of the entry changes. OCCUPANCY_LAPSE (R83): an occupancy-until that has passed is
cleared in every presence; state, claim and presence stay, and the entry occupies no more (R86, R107). -/
def Obligations.PeersAgeAndLapse : Prop :=
  (∀ (station : BitVec 4) (e : PeerEntry) (s : State), s.peer station.toNat = some e → s.listening = true →
      ∃ t p, exec (.peerAging station) s = .next t ∧ (s.unclaimed → t = { s with peers := t.peers })
        ∧ Quiet { s with peers := t.peers } t ∧ t.drive = s.drive ∧ t.seq = s.seq
        ∧ t.peer station.toNat = some { e with presence := p } ∧ (∀ m, m ≠ station.toNat → t.peer m = s.peer m)
        ∧ (e.presence = .fresh → p = if 3 * e.senderS.getD 10 < s.now - e.lastHeard then .stale else .fresh)
        ∧ (e.presence = .stale → p = if 10 * e.senderS.getD 10 < s.now - e.lastHeard then .absent else .stale)
        ∧ (e.presence = .absent → p = .absent))
  ∧ (∀ (station : BitVec 4) (e : PeerEntry) (until_ : Nat) (s : State), s.peer station.toNat = some e →
        s.listening = true → e.occupancyUntil = some until_ → until_ < s.now →
        ∃ t, exec (.occupancyLapse station) s = .next t
          ∧ (s.rot.service ≠ .queued →
            t = { s with peers := t.peers, rot := { s.rot with oversub := t.rot.oversub } })
          ∧ Quiet { s with peers := t.peers } t ∧ t.drive = s.drive ∧ t.seq = s.seq
          ∧ t.peer station.toNat = some { e with occupancyUntil := none }
          ∧ (∀ m, m ≠ station.toNat → t.peer m = s.peer m)
          ∧ (s.rot.service = .washing ∨ s.rot.service = .claiming →
              (t.rot.oversub = true ↔ s.cfg.w < t.occupyingPeers + 1)))

/-- R85: the four tests in their order; outranking is a strict order, and of two stations with different numbers exactly
one outranks the other. The values compared of the own station and of a peer entry, QUEUED and CLAIMING. -/
def Obligations.RankIsStrictTotalOrder : Prop :=
  (∀ a : Rank, a.beats a = false) ∧ (∀ a b c : Rank, a.beats b = true → b.beats c = true → a.beats c = true)
    ∧ (∀ a b : Rank, a.number ≠ b.number → (a.beats b = true ↔ b.beats a = false))
    ∧ (∀ a b : Rank, a.held = true → b.held = false → a.beats b = true)
    ∧ (∀ a b : Rank, a.held = b.held → b.urgency < a.urgency → a.beats b = true)
    ∧ (∀ a b : Rank, a.held = b.held → a.urgency = b.urgency → b.runTime < a.runTime → a.beats b = true)
    ∧ (∀ a b : Rank, a.held = b.held → a.urgency = b.urgency → a.runTime = b.runTime → a.number < b.number →
        a.beats b = true)
    ∧ (∀ s : State,
        (s.rot.service = .queued → s.ownRank = some ⟨s.rot.held, s.cond.urgency, s.cond.runTime, s.ownNumber⟩)
        ∧ (∀ c f, s.rot.service = .claiming → s.rot.claimed = some c → s.rot.claimFlags = some f →
            s.ownRank = some ⟨f.held, c.urgency, c.runTime, s.ownNumber⟩)
        ∧ (s.unclaimed → s.ownRank = none)
        ∧ ∀ e : PeerEntry,
          (e.state = .queued → e.rank = some
            ⟨(e.flags.map (fun w => w.getLsbD 14)).getD false, e.urgency, e.runTime, e.number⟩)
          ∧ (∀ c, e.state = .claiming → e.claim = some c → e.rank = some ⟨c.held, c.urgency, c.runTime, e.number⟩)
          ∧ (s.outranks e = true ↔ (e.rank.any fun a => s.ownRank.any fun b => a.beats b) = true))

/-! ## Admission and claims -/

/-- The events on which a QUEUED station evaluates admission (R91), each with what the evaluation makes of it (R92 to
R98): STATUS_TICK behind the STATUS it requests; FRAME_RECEIVED of a YIELD or a DONE of a peer, of any good frame while
a CLAIM is outstanding, or of one that changes the effective hold (R88), on a peer table that includes it (R72, R108);
PEER_AGING that changes the effective hold; and OCCUPANCY_LAPSE. Another STATUS or CLAIM heard with no CLAIM
outstanding, or a presence that ages without changing the hold, evaluates nothing. -/
def Obligations.AdmissionEvaluatedByEvents : Prop :=
  ∀ s : State, s.rot.service = .queued →
    (∀ k, s.link.statusTick = some k → s.cfg.s ≤ k + 1 → ∃ t, exec .statusTick s = .next t
      ∧ AdmissionOutcome
        { s with link := ({ s.link with statusTick := some 0 }).takeStatus (.status s.statusContent) } t)
    ∧ (∀ bytes g, goodFrame s.cfg.nG bytes = some g → g.source ≠ s.ownNumber → s.link.receiver = true →
        s.link.transmitting = false → ∃ t, exec (.frameReceived bytes) s = .next t
      ∧ (let o := if readPayload g.kind g.payload = none then s.rot.oversub else false
         let b := { s with peers := t.peers, link := s.link.heard, rot := { s.rot with oversub := o } }
         let releases := readPayload g.kind g.payload ≠ none ∧ (g.kind = .yield ∨ g.kind = .done)
         let evaluates := releases ∨ s.rot.outstanding ≠ none ∨ b.peerHold ≠ s.peerHold ∧ s.rot.holdAsserted = false
         (evaluates → AdmissionOutcome b t) ∧ (¬ evaluates → t = b)))
    ∧ (∀ (station : BitVec 4) e, s.peer station.toNat = some e → s.listening = true →
      ∃ t, exec (.peerAging station) s = .next t
        ∧ (let b := { s with peers := t.peers }
           let changed := b.peerHold ≠ s.peerHold ∧ s.rot.holdAsserted = false
           (changed → AdmissionOutcome b t) ∧ (¬ changed → t = b)))
    ∧ (∀ (station : BitVec 4) (e : PeerEntry) (until_ : Nat), s.peer station.toNat = some e → s.listening = true →
      e.occupancyUntil = some until_ → until_ < s.now → ∃ t, exec (.occupancyLapse station) s = .next t
        ∧ AdmissionOutcome { s with peers := t.peers, rot := { s.rot with oversub := false } } t)

/-- STATUS_TICK in QUEUED with a CLAIM outstanding and an evaluation that fails on the hold (R96, R98, R66): an
unstarted CLAIM is withdrawn, a started one runs on. The events on which a CLAIMING station tests the yield conditions
(R101), each with what the test makes of it (R102): STATUS_TICK behind the STATUS it requests, FRAME_RECEIVED of every
good frame of a peer on a peer table that includes it, and PEER_AGING that changes the effective hold (R88). Where the
frame itself changes the hold, its change is tested first, and a station back in QUEUED by it takes the frame there
(R91). -/
def Obligations.FailedTestsEndClaims : Prop :=
  (∀ (s : State) (k serial : Nat), s.link.statusTick = some k → s.cfg.s ≤ k + 1 → s.rot.service = .queued →
      s.rot.outstanding = some serial → s.rot.holdAsserted = true → s.link.ordered →
      ∃ t, exec .statusTick s = .next t ∧ t = { s with link := t.link, rot := t.rot }
        ∧ t.rot.lastRefusal = some .hold ∧ t.rot.service = .queued
        ∧ (s.link.unstarted.any Frame.isClaim = true →
            t.rot.outstanding = none ∧ t.rot.claimed = none ∧ t.link.queue.any Frame.isClaim = false)
        ∧ (s.link.unstarted.any Frame.isClaim = false →
            t.rot.outstanding = some serial ∧ t.rot.claimed = s.rot.claimed
              ∧ t.link.started = s.link.started))
  ∧ (∀ s : State, s.rot.service = .claiming →
      (∀ k, s.link.statusTick = some k → s.cfg.s ≤ k + 1 → ∃ t, exec .statusTick s = .next t
        ∧ YieldOutcome
          { s with link := ({ s.link with statusTick := some 0 }).takeStatus (.status s.statusContent) } t)
      ∧ (∀ bytes g, goodFrame s.cfg.nG bytes = some g → g.source ≠ s.ownNumber → s.link.receiver = true →
          s.link.transmitting = false → ∃ t u, exec (.frameReceived bytes) s = .next t
        ∧ (let o := if readPayload g.kind g.payload = none then s.rot.oversub
             else decide (s.cfg.w < t.occupyingPeers + 1)
           let b := { s with peers := t.peers, link := s.link.heard, rot := { s.rot with oversub := o } }
           let changed := b.peerHold ≠ s.peerHold ∧ s.rot.holdAsserted = false
           let releases := readPayload g.kind g.payload ≠ none ∧ (g.kind = .yield ∨ g.kind = .done)
           let again := u.rot.service = .queued ∧ changed ∧ (releases ∨ s.rot.outstanding ≠ none)
           YieldOutcome b u ∧ (again → AdmissionOutcome u t) ∧ (¬ again → t = u)))
      ∧ (∀ (station : BitVec 4) e, s.peer station.toNat = some e → s.listening = true →
        ∃ t, exec (.peerAging station) s = .next t
          ∧ (let b := { s with peers := t.peers }
             let changed := b.peerHold ≠ s.peerHold ∧ s.rot.holdAsserted = false
             (changed → YieldOutcome b t) ∧ (¬ changed → t = b))))

/-- SETTLE_EXPIRY with every check passed (R104, R114, R115, R39, R40): WASHING, the claim record and the attributes
cleared, a wash clock from zero, oversub by the occupying peers (R107), and the entry of LOWER with every valve but EFF
requested closed. Where one of the five is not closed yet, CLOSING waits for it; where all five are, as a hard
breakthrough or a recovery leaves the station (R38, R167), the entry goes straight on to OPENING with EFF requested
open, or with EFF open to RUNNING, and where CH2 shows bed low on into AIR (R117). In CLOSING and OPENING the
remaining-wash bound is the full wash bound (R127). A valve that stands in FAULT meets its request in that entry (R115,
R130): the abort path is taken with the cause FAULT, and ends at once where no valve has anything to close (R129, R131).
With a check failed (R104, R102, R28): the first that fails of slots, rate and supply is the reason, and the station
yields to QUEUED, the STATUS behind the YIELD (R54). The STATUS of the change to WASHING is formed after the entry of
LOWER began (entry 22). -/
def Obligations.SettleExpiryDecides : Prop :=
  (∀ s : State, s.rot.service = .claiming → s.rot.settleDeadline.any (· ≤ s.now) = true →
      s.washingPeers + s.outrankingClaimants < s.cfg.w →
      s.ratePasses (s.inService.toNat + s.outrankingInService) = true → s.supplyPasses = true →
      (let entered (t : State) := Quiet s t ∧ t.rot.held = false
         ∧ t.rot.manual = false ∧ t.rot.recovery = false ∧ t.rot.claimed = none ∧ t.rot.claimFlags = none
         ∧ t.rot.settleDeadline = none ∧ t.rot.lastRefusal = none ∧ t.rot.serial = s.rot.serial
         ∧ t.rot.predictedRate = s.predicted (s.inService.toNat + s.outrankingInService)
         ∧ t.cond = { s.cond with cH := 0, cT := 0, cU := 0, urgency := 0 } ∧ t.seq.phaseElapsed = 0
         ∧ t.seq.washClock = 0 ∧ t.seq.airSkipped = false ∧ t.seq.shortRinse = false ∧ t.seq.levelSlow = false
         ∧ t.seq.fullBound = s.seq.fullBound ∧ (∀ v, v ≠ .eff → (t.valve v).commanded = some .closedEnd)
         ∧ t.drive.blower.mode = .stopped ∧ t.drive.blower.output = false ∧ t.drive.blower.fault = false
       let washes (t : State) := entered t ∧ t.rot.service = .washing
         ∧ (t.rot.oversub = true ↔ s.cfg.w < s.occupyingPeers + 1) ∧ StatusAsked s t
       let waits := ∃ v, v ≠ .eff ∧ (s.valve v).pos ≠ .closed
       let goes := ∀ v, v ≠ .eff → (s.valve v).pos = .closed ∧ Requester.sequencer ∉ (s.valve v).waiting
       let runs := (s.valve .eff).pos = .opened ∧ Requester.sequencer ∉ (s.valve .eff).waiting
       let low := s.bedLow = true ∧ s.meas.ch2.status = .valid
       let full := s.cfg.longestWash
       ((∀ v, v ≠ .eff → (s.valve v).pos ≠ .fault) →
          waits ∨ goes ∧ (s.valve .eff).pos ≠ .fault ∧ ((s.valve .eff).pos ≠ .opened ∨ runs) →
        ∃ t, exec .settleExpiry s = .next t ∧ washes t ∧ t.seq.abortCause = none
          ∧ (waits → t.seq.activity = .lower ∧ t.seq.subStep = some .closing ∧ t.valve .eff = s.valve .eff)
          ∧ (goes → ∀ v, v ≠ .eff → (t.valve v).pos = .closed)
          ∧ (goes → (s.valve .eff).pos ≠ .opened → t.seq.activity = .lower ∧ t.seq.subStep = some .opening
              ∧ (t.valve .eff).commanded = some .openEnd
              ∧ ((s.valve .eff).pos = .closed → (t.valve .eff).pos = .opening ∧ (t.valve .eff).drive = .energized
                  ∧ (t.valve .eff).timer = 0 ∧ Requester.sequencer ∈ (t.valve .eff).waiting)
              ∧ ((s.valve .eff).pos = .closing → (t.valve .eff).pos = .opening ∧ (t.valve .eff).drive = .pause
                  ∧ (t.valve .eff).timer = 0 ∧ (t.valve .eff).waiting = [.sequencer]))
          ∧ (waits ∨ goes ∧ (s.valve .eff).pos ≠ .opened →
              t.seq.bound = min 65535 full ∧ (s.seq.fullBound = full → full ≤ 65535 → t.seq.bound = s.seq.fullBound))
          ∧ (goes → runs → ¬ low → t.seq.activity = .lower ∧ t.seq.subStep = some .running
              ∧ (t.valve .eff).pos = .opened ∧ (t.valve .eff).commanded = some .openEnd
              ∧ t.seq.bound = min 65535 (full - 2 * (s.cfg.travelMax + 1)))
          ∧ (goes → runs → low → t.seq.activity = .air ∧ t.seq.subStep = some .closing
              ∧ (t.valve .eff).commanded = some .closedEnd ∧ (t.valve .eff).pos = .closing
              ∧ (t.valve .eff).drive = .energized ∧ (t.valve .eff).timer = 0
              ∧ t.seq.bound = min 65535 (full - s.cfg.tLower - 2 * (s.cfg.travelMax + 1))))
       ∧ ((∃ v, v ≠ .eff ∧ (s.valve v).pos = .fault) →
          (∃ w, (s.valve w).pos ≠ .closed ∧ (s.valve w).pos ≠ .fault) →
        ∃ t, exec .settleExpiry s = .next t ∧ washes t ∧ t.seq.activity = .abortPath ∧ t.seq.subStep = none
          ∧ t.seq.abortCause = some .fault ∧ t.seq.bound = s.cfg.travelMax + 1
          ∧ (∀ w, (t.valve w).commanded = some .closedEnd
            ∧ ((s.valve w).pos = .opened ∨ (s.valve w).pos = .unknown →
                (t.valve w).pos = .closing ∧ (t.valve w).drive = .energized ∧ (t.valve w).timer = 0)))
       ∧ ((∃ v, (s.valve v).pos = .fault) →
          (∀ w, ((s.valve w).pos = .closed ∨ (s.valve w).pos = .fault)
            ∧ Requester.sequencer ∉ (s.valve w).waiting) →
        ∃ t, exec .settleExpiry s = .next t ∧ entered t ∧ t.rot.service = .isolated ∧ t.rot.oversub = false
          ∧ t.rot.deferredTakeOut = false ∧ t.seq.activity = .idle ∧ t.seq.subStep = none ∧ t.seq.abortCause = none
          ∧ t.seq.bound = 0 ∧ (∀ w, (t.valve w).commanded = some .closedEnd ∧ (t.valve w).pos = (s.valve w).pos)
          ∧ (s.link.dupAddress = false → s.link.queue.length ≤ 2 → Frame.done .fault 0 ∈ t.link.queue)
          ∧ (s.link.ordered → ToldBehind (.done .fault 0) s t))))
  ∧ (∀ s : State, s.rot.service = .claiming → s.rot.settleDeadline.any (· ≤ s.now) = true →
        (let slots := s.washingPeers + s.outrankingClaimants < s.cfg.w
         let rate := s.ratePasses (s.inService.toNat + s.outrankingInService) = true
         let supply := s.supplyPasses = true
         ¬ (slots ∧ rate ∧ supply) → ∃ t, exec .settleExpiry s = .next t ∧ Quiet s t ∧ t.rot.service = .queued
           ∧ t.rot.lastRefusal = (if ¬ slots then some .slots else if ¬ rate then some .rate else some .supply)
           ∧ t.rot.predictedRate = s.predicted (s.inService.toNat + s.outrankingInService)
           ∧ t.rot.claimed = none ∧ t.rot.claimFlags = none ∧ t.rot.settleDeadline = none ∧ t.rot.oversub = false
           ∧ t.rot.held = s.rot.held ∧ t.rot.manual = s.rot.manual ∧ t.drive = s.drive ∧ t.seq = s.seq
           ∧ t.cond = { s.cond with
             urgency := if s.rot.held || s.rot.manual then 1000 else max s.cond.cH (max s.cond.cT s.cond.cU) }
           ∧ ToldBehind (.yield s.rot.serial) s t
           ∧ (s.link.dupAddress = false → s.link.queue.length ≤ 2 → Frame.yield s.rot.serial ∈ t.link.queue)))

/-! ## The wash -/

/-- SEQUENCE_SECOND where no end condition is met (R116, R118, R121 to R123): the wash clock, and in RUNNING phase
elapsed and the count of the phase; outside the sequencer nothing changes. In RINSE tank below floor with CH4 VALID
suspends a flowing or a resuming rinse and closes WW, and tank at resume with CH4 VALID resumes a suspended one and opens
WW (R122, R123); a SAMPLE of CH4 does the same at the event, ends RINSE where T_susp is reached, and with CH4 entering
FAULT resumes a suspended rinse (R15). The remaining-wash bound follows the record of that second, by the terms of R126
in each phase. -/
def Obligations.SequenceSecondCounts : Prop :=
  (∀ s : State,
      (s.seq.activity = .idle → exec .sequenceSecond s = .next s)
      ∧ (s.seq.activity ≠ .idle → s.seq.subStep ≠ some .running → exec .sequenceSecond s = .next { s with
          seq := (let q := { s.seq with washClock := min 65535 (s.seq.washClock + 1) }
            { q with bound := s.cfg.washBound q }) })
      ∧ (s.seq.subStep = some .running →
          (s.seq.activity = .lower → s.bedLow = false ∨ s.meas.ch2.status ≠ .valid →
              s.seq.phaseElapsed + 1 < s.cfg.tLower → s.seq.phaseElapsed < 65535 →
              exec .sequenceSecond s = .next { s with
                seq := (let q := { s.seq with
                    washClock := min 65535 (s.seq.washClock + 1), phaseElapsed := s.seq.phaseElapsed + 1 }
                  { q with bound := s.cfg.washBound q }) })
          ∧ (s.seq.activity = .refill → s.bedHigh = false ∨ s.meas.ch2.status ≠ .valid →
              s.seq.phaseElapsed + 1 < s.cfg.tRefill → s.seq.phaseElapsed < 65535 →
              exec .sequenceSecond s = .next { s with
                seq := (let q := { s.seq with
                    washClock := min 65535 (s.seq.washClock + 1), phaseElapsed := s.seq.phaseElapsed + 1 }
                  { q with bound := s.cfg.washBound q }) })
          ∧ (s.seq.activity = .airWater → s.seq.phaseElapsed + 1 < s.cfg.tAw → s.seq.phaseElapsed < 65535 →
              exec .sequenceSecond s = .next { s with
                seq := (let q := { s.seq with
                    washClock := min 65535 (s.seq.washClock + 1), phaseElapsed := s.seq.phaseElapsed + 1 }
                  { q with bound := s.cfg.washBound q }) })
          ∧ (s.seq.activity = .air → s.seq.blowerOn + (if s.drive.blower.output then 1 else 0) < s.cfg.tAir →
              s.seq.phaseElapsed + 1 < s.cfg.airMax → s.seq.phaseElapsed < 65535 → exec .sequenceSecond s = .next { s with
                seq := (let q := { s.seq with
                    washClock := min 65535 (s.seq.washClock + 1), phaseElapsed := s.seq.phaseElapsed + 1
                    blowerOn := if s.drive.blower.output then s.seq.blowerOn + 1 else s.seq.blowerOn }
                  { q with bound := s.cfg.washBound q }) })
          ∧ (s.seq.activity = .rinse → s.seq.rinseWater = some .flowing → s.seq.rinseElapsed + 1 < s.cfg.tRinse →
              s.tankBelowFloor = false ∨ s.meas.ch4.status ≠ .valid → s.seq.phaseElapsed < 65535 →
              exec .sequenceSecond s = .next { s with
                seq := (let q := { s.seq with
                    washClock := min 65535 (s.seq.washClock + 1), phaseElapsed := s.seq.phaseElapsed + 1
                    rinseElapsed := s.seq.rinseElapsed + 1 }
                  { q with bound := s.cfg.washBound q }) })
          ∧ (s.seq.activity = .rinse → s.seq.suspTotal + 1 < s.cfg.tSusp →
              s.seq.rinseWater = some .suspended ∧ (s.tankAtResume = false ∨ s.meas.ch4.status ≠ .valid)
                ∨ s.seq.rinseWater = some .resuming ∧ (s.tankBelowFloor = false ∨ s.meas.ch4.status ≠ .valid) →
              s.seq.phaseElapsed < 65535 →
              exec .sequenceSecond s = .next { s with
                seq := (let q := { s.seq with
                    washClock := min 65535 (s.seq.washClock + 1), phaseElapsed := s.seq.phaseElapsed + 1
                    suspTotal := s.seq.suspTotal + 1 }
                  { q with bound := s.cfg.washBound q }) })))
  ∧ (∀ s : State, s.seq.activity = .rinse → s.seq.subStep = some .running → s.meas.ch4.status = .valid →
        (s.valve .ww).pos ≠ .fault →
        (s.seq.rinseWater = some .flowing → s.tankBelowFloor = true → s.seq.rinseElapsed + 1 < s.cfg.tRinse →
          s.seq.suspTotal < s.cfg.tSusp → ∃ t, exec .sequenceSecond s = .next t ∧ Quiet s t
            ∧ t.seq.activity = .rinse ∧ t.seq.rinseWater = some .suspended ∧ t.seq.rinseElapsed = s.seq.rinseElapsed + 1
            ∧ t.seq.suspTotal = s.seq.suspTotal ∧ t.seq.bound = s.cfg.washBound t.seq
            ∧ (t.valve .ww).commanded = some .closedEnd
            ∧ (∀ v, v ≠ .ww → t.valve v = s.valve v) ∧ t.rot = s.rot ∧ t.link = s.link ∧ t.cond = s.cond)
        ∧ (s.seq.rinseWater = some .resuming → s.tankBelowFloor = true → s.seq.suspTotal + 1 < s.cfg.tSusp →
          ∃ t, exec .sequenceSecond s = .next t ∧ Quiet s t
            ∧ t.seq.activity = .rinse ∧ t.seq.rinseWater = some .suspended ∧ t.seq.suspTotal = s.seq.suspTotal + 1
            ∧ t.seq.rinseElapsed = s.seq.rinseElapsed ∧ t.seq.bound = s.cfg.washBound t.seq
            ∧ (t.valve .ww).commanded = some .closedEnd
            ∧ ((s.valve .ww).pos = .opening →
                (t.valve .ww).pos = .closing ∧ (t.valve .ww).drive = .pause ∧ (t.valve .ww).timer = 0)
            ∧ (∀ v, v ≠ .ww → t.valve v = s.valve v) ∧ t.rot = s.rot ∧ t.link = s.link ∧ t.cond = s.cond)
        ∧ (s.seq.rinseWater = some .suspended → s.tankAtResume = true → s.seq.suspTotal + 1 < s.cfg.tSusp →
          (s.valve .ww).pos ≠ .opened → ∃ t, exec .sequenceSecond s = .next t ∧ Quiet s t
            ∧ t.seq.activity = .rinse ∧ t.seq.rinseWater = some .resuming ∧ t.seq.suspTotal = s.seq.suspTotal + 1
            ∧ t.seq.rinseElapsed = s.seq.rinseElapsed ∧ t.seq.bound = s.cfg.washBound t.seq
            ∧ (t.valve .ww).commanded = some .openEnd
            ∧ (∀ v, v ≠ .ww → t.valve v = s.valve v) ∧ t.rot = s.rot ∧ t.link = s.link ∧ t.cond = s.cond))
  ∧ (∀ (code : BitVec 12) (s : State), s.startup.stage = .running → s.seq.activity = .rinse →
      s.seq.subStep = some .running → (s.valve .ww).pos ≠ .fault →
      (s.seq.suspTotal < s.cfg.tSusp ∨ s.noValveFault ∧ (s.valve .drn).pos = .opened) →
      ∃ t, exec (.sample .ch4 code) s = .next t ∧ Quiet { s with meas := t.meas } t ∧ t.rot = s.rot ∧ t.link = s.link
        ∧ t.cond = s.cond ∧ t.rip = s.rip ∧ t.pins = s.pins
        ∧ (let water (x : RinseWater) := t.seq = (let q := { s.seq with rinseWater := some x }
             { q with bound := s.cfg.washBound q })
           let belowFloor := s.tankBelowFloor = false ∧ t.tankBelowFloor = true ∧ t.meas.ch4.status = .valid
           let recovered := s.tankAtResume = false ∧ t.tankAtResume = true ∧ t.meas.ch4.status = .valid
           let lost := s.meas.ch4.status ≠ .fault ∧ t.meas.ch4.status = .fault
           (s.seq.rinseWater = some .flowing ∨ s.seq.rinseWater = some .resuming → belowFloor →
              (s.seq.suspTotal < s.cfg.tSusp → water .suspended ∧ (t.valve .ww).commanded = some .closedEnd
                ∧ ((s.valve .ww).pos = .opened →
                    (t.valve .ww).pos = .closing ∧ (t.valve .ww).drive = .energized ∧ (t.valve .ww).timer = 0)
                ∧ ((s.valve .ww).pos = .opening →
                    (t.valve .ww).pos = .closing ∧ (t.valve .ww).drive = .pause ∧ (t.valve .ww).timer = 0)
                ∧ ∀ v, v ≠ .ww → t.valve v = s.valve v)
              ∧ (s.cfg.tSusp ≤ s.seq.suspTotal → t.seq.activity = .refill ∧ t.seq.subStep = some .closing ∧ t.seq.phaseElapsed = 0
                  ∧ t.seq.shortRinse = true ∧ t.seq.rinseWater = none ∧ t.seq.washClock = s.seq.washClock
                  ∧ (t.valve .drn).pos = .closing ∧ (t.valve .ww).commanded = some .closedEnd
                  ∧ t.valve .inf = s.valve .inf))
            ∧ (s.seq.rinseWater = some .suspended → recovered ∨ lost → (s.valve .ww).pos ≠ .opened →
              water .resuming ∧ (t.valve .ww).commanded = some .openEnd
                ∧ ((s.valve .ww).pos = .closed →
                    (t.valve .ww).pos = .opening ∧ (t.valve .ww).drive = .energized ∧ (t.valve .ww).timer = 0)
                ∧ ((s.valve .ww).pos = .closing →
                    (t.valve .ww).pos = .opening ∧ (t.valve .ww).drive = .pause ∧ (t.valve .ww).timer = 0)
                ∧ ∀ v, v ≠ .ww → t.valve v = s.valve v)))
  ∧ (∀ (p : Params) (q : Sequencer),
     let entry := 2 * (p.travelMax + 1)
     let waterEntry := if p.tAw = 0 then 0 else entry
     let air := ceilDiv (p.tAir * (p.tOn + p.tOff)) p.tOn + 10
     let rinse := p.tRinse + p.tSusp
     let left (longest : Nat) := if q.subStep = some .running then longest - q.phaseElapsed else longest + entry
     (q.activity = .lower → p.washBound q =
          min 65535 (left p.tLower + (air + p.tAw + rinse + p.tRefill) + (3 * entry + waterEntry)))
      ∧ (q.activity = .air → p.washBound q =
          min 65535 (left air + (p.tAw + rinse + p.tRefill) + (2 * entry + waterEntry)))
      ∧ (q.activity = .airWater → p.washBound q = min 65535 (left p.tAw + (rinse + p.tRefill) + 2 * entry))
      ∧ (q.activity = .rinse → p.washBound q = min 65535 (left rinse + p.tRefill + entry))
      ∧ (q.activity = .refill → p.washBound q = min 65535 (left p.tRefill))
      ∧ (q.activity = .abortPath → p.washBound q = p.travelMax + 1) ∧ (q.activity = .idle → p.washBound q = 0))

/-- LOWER_TIMEOUT, and SEQUENCE_SECOND and SAMPLE on the level (R117, R115, R15): LOWER ends with level-slow set where
CH2 is VALID, or on bed low without it, and AIR is entered: EFF closes first. A SAMPLE ends LOWER where bed low comes
true with it and CH2 is VALID, and the last move of its entry ends it at once, with phase elapsed 0, where bed low is true
with CH2 VALID. That LOWER_TIMEOUT is that whole sequence second is entry 3. -/
def Obligations.LowerEndsIntoAir : Prop :=
  (∀ s : State, s.seq.activity = .lower → s.seq.subStep = some .running → s.inPattern .lower →
    (s.bedLow = false ∨ s.meas.ch2.status ≠ .valid → s.cfg.tLower ≤ s.seq.phaseElapsed + 1 →
      s.seq.phaseElapsed < 65535 → ∃ t, exec .lowerTimeout s = .next t ∧ exec .sequenceSecond s = .next t ∧ Quiet s t
        ∧ t.seq.levelSlow = (s.seq.levelSlow || decide (s.meas.ch2.status = .valid))
        ∧ t.seq.activity = .air ∧ t.seq.subStep = some .closing ∧ t.seq.phaseElapsed = 0
        ∧ t.seq.washClock = min 65535 (s.seq.washClock + 1)
        ∧ (∀ v, v ≠ .air → (t.valve v).commanded = some .closedEnd) ∧ (t.valve .eff).pos = .closing
        ∧ t.valve .air = s.valve .air ∧ t.rot = s.rot ∧ t.cond = s.cond ∧ t.link = s.link ∧ t.rip = s.rip)
    ∧ (s.bedLow = true → s.meas.ch2.status = .valid → ∃ t, exec .sequenceSecond s = .next t ∧ Quiet s t
        ∧ t.seq.levelSlow = s.seq.levelSlow ∧ t.seq.activity = .air ∧ t.seq.subStep = some .closing
        ∧ (∀ v, v ≠ .air → (t.valve v).commanded = some .closedEnd) ∧ t.rot = s.rot ∧ t.link = s.link)
    ∧ (∀ code : BitVec 12, s.startup.stage = .running → s.bedLow = false → ∃ t, exec (.sample .ch2 code) s = .next t
        ∧ Quiet { s with meas := t.meas } t ∧ t.rot = s.rot ∧ t.cond = s.cond ∧ t.link = s.link ∧ t.rip = s.rip
        ∧ t.pins = s.pins
        ∧ (t.bedLow = true → t.meas.ch2.status = .valid →
            t.seq = (let q := { s.seq with
                activity := .air, subStep := some .closing, phaseElapsed := 0, rinseWater := none }
              { q with bound := s.cfg.washBound q })
            ∧ (∀ v, v ≠ .air → (t.valve v).commanded = some .closedEnd) ∧ (t.valve .eff).pos = .closing
            ∧ (t.valve .eff).drive = .energized ∧ (t.valve .eff).timer = 0 ∧ t.valve .air = s.valve .air)))
  ∧ (∀ (v : Valve) (e : ValveEnd) (s : State), s.startup.stage = .running → s.rot.service = .washing →
      s.seq.activity = .lower → (s.valve v).pos = ValveEnd.moving e → (s.valve v).drive = .energized →
      (∀ w, w ≠ v → (s.valve w).waiting = []) → s.noValveFault →
      (s.seq.subStep = some .closing ∧ e = .closedEnd ∧ v ≠ .eff ∧ (s.valve .eff).pos = .opened
        ∨ s.seq.subStep = some .opening ∧ e = .openEnd ∧ v = .eff) →
      s.bedLow = true → s.meas.ch2.status = .valid →
      ∃ t, exec (.targetSwitchMade v) s = .next t ∧ Quiet s t ∧ t.rot = s.rot ∧ t.cond = s.cond ∧ t.link = s.link
        ∧ t.rip = s.rip
        ∧ t.seq = (let q := { s.seq with
            activity := .air, subStep := some .closing, phaseElapsed := 0, rinseWater := none }
          { q with bound := s.cfg.washBound q })
        ∧ (∀ w, w ≠ .air → (t.valve w).commanded = some .closedEnd) ∧ (t.valve .eff).pos = .closing
        ∧ (t.valve .eff).drive = .energized ∧ (t.valve .eff).timer = 0
        ∧ (t.valve v).lastTravel = (if (s.valve v).redrive then (s.valve v).lastTravel else some (s.valve v).timer)
        ∧ t.meas.settling = (if v = .eff then some 0 else s.meas.settling) ∧ t.meas.decision = s.meas.decision)

/-- AIR_ON_TIME_REACHED and AIR_MAX_TIME (R118, R113): AIR ends at T_air seconds of blower output or at its maximum
time; pulsed operation ends, or with t_off of 0 the continuous one goes on, and AIR_WATER is entered, or RINSE where
T_aw is 0; there the second in which the blower output was turned off is kept (entry 17). That each command is that
whole sequence second is entry 3. -/
def Obligations.AirEndsIntoNextPhase : Prop :=
  ∀ s : State, s.seq.activity = .air → s.seq.subStep = some .running → s.inPattern .air →
    (∀ v, (s.valve v).waiting = []) →
    (s.drive.blower.mode = .pulsed
      ∨ (s.cfg.tOff = 0 ∧ s.drive.blower.mode = .continuous ∧ s.drive.blower.pulse = none)) →
    s.seq.phaseElapsed < 65535 →
    (let ended (t : State) := Quiet s t ∧ t.rot = s.rot ∧ t.cond = s.cond ∧ t.link = s.link ∧ t.rip = s.rip
       ∧ t.seq.phaseElapsed = 0 ∧ t.seq.washClock = min 65535 (s.seq.washClock + 1) ∧ t.drive.blower.pulse = none
       ∧ (0 < s.cfg.tAw → t.seq.activity = .airWater ∧ t.seq.subStep = some .opening
           ∧ t.drive.blower.mode = (if s.drive.blower.mode = .pulsed then .pulseEnded else .continuous)
           ∧ t.drive.blower.output = s.drive.blower.output ∧ t.drive.airEndStop = s.drive.airEndStop
           ∧ (t.valve .drn).pos = .opening ∧ (t.valve .ww).pos = .opening ∧ (t.valve .air).pos = .opened
           ∧ (t.valve .eff).commanded = some .closedEnd ∧ (t.valve .inf).commanded = some .closedEnd
           ∧ (t.valve .ftw).commanded = some .closedEnd)
       ∧ (s.cfg.tAw = 0 → t.seq.activity = .rinse ∧ t.seq.subStep = some .closing
           ∧ t.drive.blower.mode = .stopped ∧ t.drive.blower.output = false ∧ (t.valve .air).pos = .closing
           ∧ (t.valve .drn).pos = .closed ∧ (t.valve .ww).pos = .closed
           ∧ t.drive.airEndStop = if s.drive.blower.output then some s.now else s.drive.airEndStop)
     (s.cfg.tAir ≤ s.seq.blowerOn + (if s.drive.blower.output then 1 else 0) →
        (s.seq.airSkipped = false) → ∃ t, exec .airOnTimeReached s = .next t
          ∧ exec .sequenceSecond s = .next t ∧ ended t)
     ∧ (ceilDiv (s.cfg.tAir * (s.cfg.tOn + s.cfg.tOff)) s.cfg.tOn + 10 ≤ s.seq.phaseElapsed + 1 →
        (s.seq.airSkipped = false) → ∃ t, exec .airMaxTime s = .next t ∧ exec .sequenceSecond s = .next t ∧ ended t))

/-- AIR_WATER_END, RINSE_COMPLETE and SUSPENSION_LIMIT (R120, R121, R115): AIR_WATER ends into RINSE with the blower
stopped and AIR closing, or with air given up goes straight on in RINSE; RINSE ends into REFILL with DRN and WW closing,
short-rinse set at the suspension limit. That each command is that whole sequence second is entry 3. -/
def Obligations.WaterPhasesEnd : Prop :=
  ∀ s : State, s.seq.subStep = some .running → s.seq.phaseElapsed < 65535 →
    (s.seq.activity = .airWater → s.seq.airSkipped = false → s.inPattern .airWater →
      s.cfg.tAw ≤ s.seq.phaseElapsed + 1 → ∃ t, exec .airWaterEnd s = .next t
        ∧ exec .sequenceSecond s = .next t ∧ Quiet s t ∧ t.rot = s.rot
        ∧ t.cond = s.cond ∧ t.link = s.link ∧ t.seq.activity = .rinse ∧ t.seq.subStep = some .closing
        ∧ t.seq.washClock = min 65535 (s.seq.washClock + 1) ∧ t.drive.blower.mode = .stopped
        ∧ t.drive.blower.output = false ∧ (t.valve .air).pos = .closing ∧ t.valve .drn = s.valve .drn
        ∧ t.valve .ww = s.valve .ww)
    ∧ (s.seq.activity = .airWater → s.seq.airSkipped = true → s.inPattern .airWater → (∀ v, (s.valve v).waiting = []) →
      s.cfg.tAw ≤ s.seq.phaseElapsed + 1 → s.tankBelowFloor = false ∨ s.meas.ch4.status ≠ .valid →
      ∃ t, exec .airWaterEnd s = .next t
        ∧ exec .sequenceSecond s = .next t ∧ Quiet s t ∧ t.rot = s.rot ∧ t.cond = s.cond ∧ t.link = s.link
        ∧ t.seq.activity = .rinse ∧ t.seq.subStep = some .running ∧ t.seq.rinseWater = some .flowing
        ∧ t.seq.phaseElapsed = 0 ∧ t.seq.washClock = min 65535 (s.seq.washClock + 1)
        ∧ t.drive.blower.mode = .stopped ∧ t.drive.blower.output = false
        ∧ ∀ v, (t.valve v).pos = (s.valve v).pos)
    ∧ (s.seq.activity = .rinse → s.inPattern .rinse → s.seq.rinseWater = some .flowing →
      s.cfg.tRinse ≤ s.seq.rinseElapsed + 1 → ∃ t, exec .rinseComplete s = .next t
        ∧ exec .sequenceSecond s = .next t ∧ Quiet s t ∧ t.rot = s.rot
        ∧ t.cond = s.cond ∧ t.link = s.link ∧ t.seq.activity = .refill ∧ t.seq.subStep = some .closing
        ∧ t.seq.shortRinse = s.seq.shortRinse ∧ t.seq.rinseWater = none
        ∧ t.seq.washClock = min 65535 (s.seq.washClock + 1) ∧ (t.valve .drn).pos = .closing
        ∧ (t.valve .ww).pos = .closing ∧ t.valve .inf = s.valve .inf)
    ∧ (s.seq.activity = .rinse → s.noValveFault → (s.valve .drn).pos = .opened →
      (s.seq.rinseWater = some .suspended ∨ s.seq.rinseWater = some .resuming) →
      s.cfg.tSusp ≤ s.seq.suspTotal + 1 → ∃ t, exec .suspensionLimit s = .next t
        ∧ exec .sequenceSecond s = .next t ∧ Quiet s t ∧ t.rot = s.rot
        ∧ t.cond = s.cond ∧ t.link = s.link ∧ t.seq.activity = .refill ∧ t.seq.subStep = some .closing
        ∧ t.seq.shortRinse = true ∧ t.seq.rinseWater = none
        ∧ t.seq.washClock = min 65535 (s.seq.washClock + 1) ∧ (t.valve .drn).pos = .closing
        ∧ (t.valve .ww).commanded = some .closedEnd ∧ t.valve .inf = s.valve .inf)

/-- REFILL_TIMEOUT, and SEQUENCE_SECOND and SAMPLE on the level (R124, R15, R131, R45, R135, R136): the wash is
complete, its DONE carries the wash clock, the STATUS of the change stands behind it (R54), and the station goes to
RIPENING, or with a deferred TAKE-OUT to STANDBY. A SAMPLE ends REFILL where bed high comes true with it and CH2 is
VALID, and the last move of its entry ends it at once where bed high is true with CH2 VALID. That REFILL_TIMEOUT is that
whole sequence second is entry 3. -/
def Obligations.RefillEndsWash : Prop :=
  let ended (s : State) (clock : Nat) (t : State) := t.seq.activity = .idle ∧ t.seq.subStep = none
    ∧ t.seq.phaseElapsed = 0 ∧ t.seq.bound = 0 ∧ t.seq.washClock = clock ∧ t.seq.airSkipped = s.seq.airSkipped
    ∧ t.seq.shortRinse = s.seq.shortRinse ∧ t.rot.deferredTakeOut = false
    ∧ (s.link.dupAddress = false → s.link.queue.length ≤ 2 → Frame.done .complete clock ∈ t.link.queue)
    ∧ (∃ c, ToldOf c s t ∧ t.link = ((s.offer (.done .complete clock)).link).takeStatus (.status c))
    ∧ (s.rot.deferredTakeOut = false → t.rot.service = .ripening ∧ t.rip.step = .opening
        ∧ t.rip.basis = some (if s.meas.ch1.status = .valid then .verified else .onTime)
        ∧ (t.valve .inf).pos = .opened ∧ (t.valve .ftw).pos = .opening
        ∧ ∀ v, v ∈ ripeningCloses → (t.valve v).commanded = some .closedEnd)
    ∧ (s.rot.deferredTakeOut = true → t.rot.service = .standby ∧ (t.valve .inf).pos = .closing
        ∧ (t.valve .eff).commanded = some .closedEnd ∧ t.rip = s.rip)
  (∀ s : State, s.rot.service = .washing → s.seq.activity = .refill → s.seq.subStep = some .running →
    s.inPattern .refill → (∀ v, (s.valve v).waiting = []) → s.seq.phaseElapsed < 65535 →
    (let level := s.bedHigh = true ∧ s.meas.ch2.status = .valid
     let counted := min 65535 (s.seq.washClock + 1)
     (level → ∃ t, exec .sequenceSecond s = .next t ∧ Quiet s t ∧ ended s counted t
       ∧ t.seq.levelSlow = s.seq.levelSlow)
     ∧ (¬ level → s.cfg.tRefill ≤ s.seq.phaseElapsed + 1 →
        ∃ t, exec .refillTimeout s = .next t ∧ exec .sequenceSecond s = .next t ∧ Quiet s t ∧ ended s counted t
          ∧ t.seq.levelSlow = (s.seq.levelSlow || decide (s.meas.ch2.status = .valid)))
     ∧ (∀ code : BitVec 12, s.startup.stage = .running → s.bedHigh = false → ∃ t, exec (.sample .ch2 code) s = .next t
        ∧ Quiet { s with meas := t.meas } t ∧ t.pins = s.pins
        ∧ (t.bedHigh = true → t.meas.ch2.status = .valid →
            ended s s.seq.washClock t ∧ t.seq.levelSlow = s.seq.levelSlow))))
  ∧ (∀ (v : Valve) (e : ValveEnd) (s : State), s.startup.stage = .running → s.rot.service = .washing →
      s.seq.activity = .refill → (s.valve v).pos = ValveEnd.moving e → (s.valve v).drive = .energized →
      (∀ w, w ≠ v → (s.valve w).waiting = [] ∧ (w ≠ .inf → (s.valve w).pos = .closed)) →
      (s.seq.subStep = some .closing ∧ e = .closedEnd ∧ v ≠ .inf ∧ (s.valve .inf).pos = .opened
        ∨ s.seq.subStep = some .opening ∧ e = .openEnd ∧ v = .inf) →
      s.bedHigh = true → s.meas.ch2.status = .valid →
      ∃ t, exec (.targetSwitchMade v) s = .next t ∧ Quiet s t ∧ ended s s.seq.washClock t
        ∧ t.seq.levelSlow = s.seq.levelSlow ∧ t.meas.settling = s.meas.settling
        ∧ (t.valve v).lastTravel = (if (s.valve v).redrive then (s.valve v).lastTravel else some (s.valve v).timer))

/-! ## Ripening -/

/-- RIPENING_SECOND (R137, R138): ripening elapsed counts; the hold timer counts the seconds of turbidity ripened on a
VERIFIED basis with no settling running. RIPENING_SUCCESS and RIPENING_EXPIRY (R139 to R141, R46, R42): success by the
hold timer closes FTW first with ripen-unverified clear; expiry is success with it set on the basis ON-TIME, and
RIPEN-FAIL on VERIFIED. That each of the two is that whole ripening second is entry 3. -/
def Obligations.RipeningCountsAndEnds : Prop :=
  (∀ s : State,
      (s.rip.step ≠ .running → exec .ripeningSecond s = .next s)
      ∧ (s.rip.step = .running → s.rip.elapsed + 1 < s.cfg.tRmax →
          (s.rip.basis = some .verified → s.meas.settling = none → s.turbidityRipened = true →
              s.rip.hold + 1 < s.cfg.tRhold → s.rip.hold < 1800 → exec .ripeningSecond s = .next { s with
                rip := { s.rip with elapsed := s.rip.elapsed + 1, hold := s.rip.hold + 1 } })
          ∧ (s.rip.basis = some .verified → s.meas.settling = none → s.turbidityRipened = false → 0 < s.cfg.tRhold →
              exec .ripeningSecond s = .next { s with
                rip := { s.rip with elapsed := s.rip.elapsed + 1, hold := 0 } })
          ∧ (s.rip.basis ≠ some .verified ∨ (s.meas.settling ≠ none ∧ s.rip.hold < s.cfg.tRhold) →
              exec .ripeningSecond s = .next { s with rip := { s.rip with elapsed := s.rip.elapsed + 1 } })))
  ∧ (∀ s : State, s.rot.service = .ripening → s.rip.step = .running →
        (s.rip.basis = some .verified → s.meas.settling = none → s.turbidityRipened = true →
            s.cfg.tRhold ≤ s.rip.hold + 1 → s.cfg.tRhold ≤ 1800 → (s.valve .ftw).pos = .opened →
            ∃ t, exec .ripeningSuccess s = .next t
              ∧ exec .ripeningSecond s = .next t ∧ Quiet s t ∧ t.rip.step = .ending ∧ t.rip.unverified = false
              ∧ t.rip.elapsed = s.rip.elapsed + 1 ∧ (t.valve .ftw).pos = .closing
              ∧ (t.valve .ftw).commanded = some .closedEnd ∧ (∀ v, v ≠ .ftw → t.valve v = s.valve v)
              ∧ t.rot = s.rot ∧ t.cond = s.cond ∧ t.link = s.link ∧ t.seq = s.seq)
        ∧ (s.rip.basis = some .onTime → s.cfg.tRmax ≤ s.rip.elapsed + 1 → (s.valve .ftw).pos = .opened →
            ∃ t, exec .ripeningExpiry s = .next t
              ∧ exec .ripeningSecond s = .next t ∧ Quiet s t ∧ t.rip.step = .ending ∧ t.rip.unverified = true
              ∧ (t.valve .ftw).pos = .closing ∧ (∀ v, v ≠ .ftw → t.valve v = s.valve v)
              ∧ t.rot = s.rot ∧ t.cond = s.cond ∧ t.link = s.link ∧ t.seq = s.seq)
        ∧ (s.rip.basis = some .verified → s.cfg.tRmax ≤ s.rip.elapsed + 1 →
            s.rip.hold + 1 < s.cfg.tRhold ∨ (s.meas.settling ≠ none ∧ s.rip.hold < s.cfg.tRhold)
              ∨ (s.meas.settling = none ∧ s.turbidityRipened = false ∧ 0 < s.cfg.tRhold) →
            ∃ t, exec .ripeningExpiry s = .next t
              ∧ exec .ripeningSecond s = .next t ∧ Quiet s t ∧ t.rip.step = .idle ∧ t.rip.basis = none
              ∧ t.rip.elapsed = 0 ∧ t.rip.hold = 0 ∧ t.rip.unverified = s.rip.unverified
              ∧ t.rot.service = .isolated ∧ t.rot.ripenFail = true ∧ t.rot.deferredWashNow = false
              ∧ (t.valve .inf).commanded = some .closedEnd ∧ (t.valve .eff).commanded = some .closedEnd
              ∧ ((s.valve .ftw).commanded = some .openEnd → (t.valve .ftw).commanded = some .closedEnd)
              ∧ t.cond.runTime = s.cond.runTime ∧ t.cond.baseline = s.cond.baseline
              ∧ t.cond.closedWindow = s.cond.closedWindow ∧ t.seq = s.seq ∧ StatusAsked s t))

/-- TARGET_SWITCH_MADE of FTW as a ripening ends (R140, R46, R21, R22, R29): EFF is requested open, a new run begins,
and the station goes to FILTERING, or with a deferred WASH-NOW to QUEUED with manual, with the components and urgency
computed from the values of the new run (R28, R27). -/
def Obligations.RipenedFilterReturns : Prop :=
  ∀ s : State, s.startup.stage = .running → s.rot.service = .ripening → s.rip.step = .ending →
    (s.valve .ftw).pos = .closing → (s.valve .ftw).drive = .energized → (s.valve .eff).pos = .closed →
    s.rot.manual = false →
    ∃ t, exec (.targetSwitchMade .ftw) s = .next t ∧ Quiet s t
      ∧ t.rot.service = (if s.rot.deferredWashNow then .queued else .filtering)
      ∧ t.rot.manual = s.rot.deferredWashNow ∧ t.rot.deferredWashNow = false ∧ t.rot.held = s.rot.held
      ∧ (t.valve .ftw).pos = .closed ∧ (t.valve .ftw).drive = .idle
      ∧ (t.valve .eff).commanded = some .openEnd ∧ (t.valve .eff).pos = .opening
      ∧ t.cond.runTime = 0 ∧ t.cond.runSeconds = 0 ∧ t.cond.rtEstimated = false
      ∧ (t.cond.closedWindow = true ↔ 0 < s.cfg.tMin)
      ∧ t.cond.baseline = (match s.meas.ch0.filtered with
        | some h => min h (s.cfg.hT - 20)
        | none => 0)
      ∧ t.urgencyStands ∧ t.meas.decision = s.meas.decision
      ∧ t.rip = { s.rip with step := .idle, elapsed := 0, hold := 0, basis := none } ∧ t.seq = s.seq
      ∧ StatusAsked s t

/-! ## The drive unit -/

/-- R146 to R148, and the coils of section 09: what a move request makes of a valve, by its position; no other valve's
record changes and nothing outside the drive unit: the limit switches, inputs, read as before. -/
def Obligations.MoveRequestByPosition : Prop :=
  ∀ (who : Requester) (target : ValveEnd) (v : Valve) (s : State),
    (let r := s.valve v
     let t := s.requestMove who target v
     let r' := t.valve v
     r'.commanded = some target ∧ (∀ w, w ≠ v → t.valve w = s.valve w) ∧ t = { s with drive := t.drive }
      ∧ (r.pos = .fault ∨ r.pos = ValveEnd.atRest target → r' = { r with commanded := some target })
      ∧ (r.pos = ValveEnd.atRest (ValveEnd.other target) ∨ r.pos = .unknown →
          r' = { r with
            commanded := some target, pos := ValveEnd.moving target, drive := .energized, timer := 0
            waiting := r.waiting.erase who ++ [who] })
      ∧ (r.pos = ValveEnd.moving target →
          r' = { r with commanded := some target, redrive := false, waiting := r.waiting.erase who ++ [who] })
      ∧ (r.pos = ValveEnd.moving (ValveEnd.other target) →
          r' = { r with
            commanded := some target, pos := ValveEnd.moving target, drive := .pause, timer := 0, redrive := false
            waiting := [who] })
      ∧ (∀ w, (t.valve w).openCoil = false ∨ (t.valve w).closeCoil = false))

/-- TARGET_SWITCH_MADE and LIMIT_SWITCH_CHANGE of the target switch (R147, R150, R12): the move completes, its requests
are answered, its travel time is captured unless it was a re-drive; a completed opening of EFF or FTW starts settling, at
which the decision value stays as it was. In FILTERING, QUEUED, CLAIMING, STANDBY and ISOLATED nothing more follows.
TARGET_SWITCH_MADE of the last move of a step (R115, R113, R154): of the last close, a phase entry goes on to OPENING
with its opens requested, or to RUNNING at once where all of them are open; of the last open, and in AIR_WATER after a
blower fault of AIR's close too (R119), to RUNNING; the blower is started as the phase has it. Where the tank is below
floor RINSE is suspended at once, and with T_susp reached ends (R122); LOWER and REFILL ended so are in LowerEndsIntoAir
and RefillEndsWash. A move that is not the last of its step changes nothing of the sequencer, nor does one in RUNNING, but
that WW open makes a RESUMING rinse FLOWING (R123). A ripening entry goes the same way, its timers from 0 (R136). That the
travel timer keeps its value is entry 24, and the levels TARGET_SWITCH_MADE leaves entry 23. -/
def Obligations.TargetSwitchCompletesMove : Prop :=
  (∀ (v : Valve) (e : ValveEnd) (s : State), s.startup.stage = .running →
    s.out ∨ s.rot.service = .filtering ∨ s.rot.service = .queued ∨ s.rot.service = .claiming →
    (s.valve v).pos = ValveEnd.moving e → (s.valve v).drive = .energized →
    (let done (t : State) := Quiet s t ∧ MoveDone v e s t
       ∧ (∀ w, w ≠ v → t.valve w = s.valve w)
       ∧ t.rot = s.rot ∧ t.cond = s.cond ∧ t.link = s.link ∧ t.seq = s.seq
       ∧ t.rip = s.rip ∧ t.startup = s.startup
     (∃ t, exec (.targetSwitchMade v) s = .next t ∧ done t)
     ∧ ((s.switches v).at (ValveEnd.other e) = false →
        ∃ t, exec (.limitSwitchChange v e true) s = .next t ∧ done t ∧ (t.switches v).at e = true)))
  ∧ (∀ (v : Valve) (e : ValveEnd) (a : Activity) (s : State), s.startup.stage = .running → s.rot.service = .washing →
      s.seq.activity = a → a ≠ .idle → a ≠ .abortPath → s.airInterlock → (s.valve v).pos = ValveEnd.moving e →
      (s.valve v).drive = .energized → (∀ w, w ≠ v → (s.valve w).waiting = []) →
      (let opens := phaseOpens s.seq.airSkipped a
       let stays (t : State) := Quiet s t ∧ t.rot = s.rot ∧ t.link = s.link ∧ t.cond = s.cond ∧ t.rip = s.rip
       let lastClose := s.seq.subStep = some .closing ∧ e = .closedEnd ∧ v ∉ opens
       let lastOpen := s.seq.subStep = some .opening
         ∧ (e = .openEnd ∧ v ∈ opens ∨ e = .closedEnd ∧ a = .airWater ∧ s.seq.airSkipped = true ∧ v = .air)
       let complete := lastClose ∧ (∀ w ∈ opens, (s.valve w).pos = .opened) ∨ lastOpen
       (lastClose → (∀ w ∈ opens, (s.valve w).pos ≠ .fault) →
          (∃ w ∈ opens, (s.valve w).pos ≠ .opened) → ∃ t, exec (.targetSwitchMade v) s = .next t ∧ stays t
            ∧ t.seq = (let q := { s.seq with subStep := some .opening }
              { q with bound := s.cfg.washBound q }) ∧ MoveDone v e s t
            ∧ t.drive.blower = s.drive.blower ∧ (∀ w, w ∉ opens → w ≠ v → t.valve w = s.valve w)
            ∧ (∀ w ∈ opens, (t.valve w).commanded = some .openEnd
              ∧ ((s.valve w).pos = .closed ∨ (s.valve w).pos = .unknown →
                  (t.valve w).pos = .opening ∧ (t.valve w).drive = .energized ∧ (t.valve w).timer = 0)))
        ∧ (complete →
          (a = .lower → s.bedLow = false ∨ s.meas.ch2.status ≠ .valid) →
          (a = .rinse → s.tankBelowFloor = false ∨ s.meas.ch4.status ≠ .valid) →
          (a = .refill → s.bedHigh = false ∨ s.meas.ch2.status ≠ .valid) →
          ∃ t, exec (.targetSwitchMade v) s = .next t ∧ stays t ∧ MoveDone v e s t
            ∧ (∀ w, w ≠ v → w ∉ opens ∨ s.seq.subStep = some .opening → t.valve w = s.valve w)
            ∧ (s.seq.subStep = some .closing → ∀ w ∈ opens, t.valve w = { s.valve w with commanded := some .openEnd })
            ∧ t.seq = (let q := { s.seq with
                subStep := some .running, phaseElapsed := 0
                rinseWater := if a = Activity.rinse then some .flowing else none }
              { q with bound := s.cfg.washBound q })
            ∧ (a = .air → t.drive.blower.output = !s.drive.blower.fault
                ∧ (0 < s.cfg.tOff → t.drive.blower.mode = .pulsed ∧ t.drive.blower.pulse = some ⟨true, 0⟩)
                ∧ (s.cfg.tOff = 0 → t.drive.blower.mode = .continuous ∧ t.drive.blower.pulse = none))
            ∧ (a = .airWater → s.seq.airSkipped = false → t.drive.blower.mode = .continuous
                ∧ t.drive.blower.pulse = none
                ∧ (t.drive.blower.output = true ↔ (t.valve .air).pos = .opened ∧ s.drive.blower.fault = false))
            ∧ (a = .lower ∨ a = .rinse ∨ a = .refill ∨ a = .airWater ∧ s.seq.airSkipped = true →
                t.drive.blower = s.drive.blower))
        ∧ (complete → a = .rinse → s.tankBelowFloor = true → s.meas.ch4.status = .valid →
          (s.valve .ww).pos = .opened ∨ v = .ww →
          (s.seq.suspTotal < s.cfg.tSusp → ∃ t, exec (.targetSwitchMade v) s = .next t ∧ stays t
            ∧ t.seq = (let q := { s.seq with
                subStep := some .running, phaseElapsed := 0, rinseWater := some .suspended }
              { q with bound := s.cfg.washBound q })
            ∧ (t.valve .ww).pos = .closing ∧ (t.valve .ww).drive = .energized ∧ (t.valve .ww).timer = 0
            ∧ (t.valve .ww).commanded = some .closedEnd ∧ (v ≠ .ww → MoveDone v e s t))
          ∧ (s.cfg.tSusp ≤ s.seq.suspTotal → s.noValveFault → (s.valve .drn).pos = .opened ∨ v = .drn →
            ∃ t, exec (.targetSwitchMade v) s = .next t ∧ stays t ∧ t.seq.activity = .refill
              ∧ t.seq.subStep = some .closing ∧ t.seq.phaseElapsed = 0 ∧ t.seq.shortRinse = true
              ∧ t.seq.rinseWater = none ∧ t.seq.washClock = s.seq.washClock ∧ (t.valve .drn).pos = .closing
              ∧ (t.valve .ww).pos = .closing))))
  ∧ (∀ (v : Valve) (e : ValveEnd) (s : State), s.startup.stage = .running → s.rot.service = .washing →
      s.airInterlock → (s.valve v).pos = ValveEnd.moving e → (s.valve v).drive = .energized →
      (let opens := phaseOpens s.seq.airSkipped s.seq.activity
       let phase := s.seq.activity ≠ .idle ∧ s.seq.activity ≠ .abortPath
       let waited (w : Valve) := w ≠ v ∧ Requester.sequencer ∈ (s.valve w).waiting
       let waits := s.seq.activity = .abortPath ∧ (∃ w, waited w)
         ∨ phase ∧ s.seq.subStep = some .closing ∧ (∃ w, w ∉ opens ∧ waited w)
         ∨ phase ∧ s.seq.subStep = some .opening
           ∧ (∃ w, (w ∈ opens ∨ s.seq.activity = .airWater ∧ w = .air) ∧ waited w)
       let resuming := s.seq.activity = .rinse ∧ s.seq.rinseWater = some .resuming
       let flows := s.seq.subStep = some .running ∧ resuming ∧ v = .ww ∧ e = .openEnd
       waits ∨ phase ∧ s.seq.subStep = some .running ∧ (resuming → v ≠ .ww → (s.valve .ww).pos ≠ .opened) →
       ∃ t, exec (.targetSwitchMade v) s = .next t ∧ Quiet s t ∧ MoveDone v e s t ∧ t.rot = s.rot ∧ t.link = s.link
         ∧ t.cond = s.cond ∧ t.rip = s.rip ∧ (∀ w, w ≠ v → t.valve w = s.valve w)
         ∧ (flows → t.seq = (let q := { s.seq with rinseWater := some .flowing }
              { q with bound := s.cfg.washBound q }))
         ∧ (¬ flows → t.seq = s.seq)
         ∧ (v ≠ .air ∨ e = .closedEnd → t.drive.blower = s.drive.blower)
         ∧ (v = .air → e = .openEnd →
             t.drive.blower.output = (s.drive.blower.calls && !s.drive.blower.fault)
               ∧ t.drive.blower.mode = s.drive.blower.mode ∧ t.drive.blower.pulse = s.drive.blower.pulse)))
  ∧ (∀ (v : Valve) (e : ValveEnd) (s : State), s.startup.stage = .running → s.rot.service = .ripening →
      (s.valve v).pos = ValveEnd.moving e → (s.valve v).drive = .energized →
      (let stays (t : State) := Quiet s t ∧ MoveDone v e s t ∧ t.rot = s.rot ∧ t.link = s.link ∧ t.cond = s.cond
         ∧ t.seq = s.seq
       let waited (w : Valve) := w ≠ v ∧ Requester.sequencer ∈ (s.valve w).waiting
       let waits := s.rip.step = .running ∨ s.rip.step = .closing ∧ (∃ w ∈ ripeningCloses, waited w)
         ∨ s.rip.step = .opening ∧ (∃ w ∈ ripeningOpens, waited w) ∨ s.rip.step = .ending ∧ waited .ftw
       let last := ∀ w, w ≠ v → (s.valve w).waiting = []
       let lastClose := s.rip.step = .closing ∧ v ∈ ripeningCloses ∧ e = .closedEnd
       (waits → ∃ t, exec (.targetSwitchMade v) s = .next t ∧ stays t ∧ t.rip = s.rip
          ∧ ∀ w, w ≠ v → t.valve w = s.valve w)
        ∧ (last → lastClose → (∃ w ∈ ripeningOpens, (s.valve w).pos ≠ .opened ∧ (s.valve w).pos ≠ .fault) →
          ∃ t, exec (.targetSwitchMade v) s = .next t ∧ stays t ∧ t.rip = { s.rip with step := .opening }
            ∧ (∀ w, w ∉ ripeningOpens → w ≠ v → t.valve w = s.valve w)
            ∧ (∀ w ∈ ripeningOpens, (t.valve w).commanded = some .openEnd
              ∧ ((s.valve w).pos = .closed ∨ (s.valve w).pos = .unknown →
                  (t.valve w).pos = .opening ∧ (t.valve w).drive = .energized ∧ (t.valve w).timer = 0)))
        ∧ (last → lastClose → (∀ w ∈ ripeningOpens, (s.valve w).pos = .opened) →
          ∃ t, exec (.targetSwitchMade v) s = .next t ∧ stays t
            ∧ t.rip = { s.rip with step := .running, elapsed := 0, hold := 0 }
            ∧ (∀ w, w ∉ ripeningOpens → w ≠ v → t.valve w = s.valve w)
            ∧ (∀ w ∈ ripeningOpens, t.valve w = { s.valve w with commanded := some .openEnd }))
        ∧ (last → s.rip.step = .opening → v ∈ ripeningOpens → e = .openEnd →
          ∃ t, exec (.targetSwitchMade v) s = .next t ∧ stays t
            ∧ t.rip = { s.rip with step := .running, elapsed := 0, hold := 0 }
            ∧ ∀ w, w ≠ v → t.valve w = s.valve w)))

/-- TRAVEL_TIMEOUT, DRIFT and FEEDBACK_FAULT (R147, R149 to R151, R44): the valve enters FAULT with its kind, its coil
de-energized and its requests answered, and the valve-fault flag is set; a first drift loss re-drives instead. No switch
changes but the one the event tells of. Of INF and EFF a fault in FILTERING, QUEUED and CLAIMING isolates the station,
of INF, EFF and FTW one in RIPENING, with the claim closed off (R43) and the ripening abandoned; in STANDBY and ISOLATED,
of the other four valves in FILTERING, QUEUED and CLAIMING, and of DRN, WW and AIR in a ripening, nothing else follows,
but that the close of one that faults in CLOSING counts as ended and the entry goes on (R136). The ripening step is IDLE
outside RIPENING (R134), which every step keeps (RipeningStepConfined). That both switches read made after FEEDBACK_FAULT
is entry 23, and that TRAVEL_TIMEOUT is the drive second of its valve entry 3. -/
def Obligations.ValveFaultsAndDrift : Prop :=
  ∀ (v : Valve) (s : State), s.startup.stage = .running → s.ripeningConfined → (s.valve v).pos ≠ .fault →
    (let run := s.rot.service = .filtering ∨ s.rot.service = .queued ∨ s.rot.service = .claiming
     let isolates := run ∧ (v = .inf ∨ v = .eff)
       ∨ s.rot.service = .ripening ∧ (v = .inf ∨ v = .eff ∨ v = .ftw)
     let flagged := s.rot.service = .ripening ∧ (v = .drn ∨ v = .ww ∨ v = .air)
     let waited (w : Valve) := w ≠ v ∧ Requester.sequencer ∈ (s.valve w).waiting
     let stays := s.out ∨ run ∧ v ≠ .inf ∧ v ≠ .eff
       ∨ flagged ∧ (s.rip.step = .running ∨ s.rip.step = .closing ∧ (∃ w ∈ ripeningCloses, waited w)
         ∨ s.rip.step = .opening ∧ (∃ w ∈ ripeningOpens, waited w) ∨ s.rip.step = .ending ∧ waited .ftw)
     let goesOn := flagged ∧ s.rip.step = .closing ∧ (∀ w ∈ ripeningCloses, ¬ waited w)
       ∧ (∃ w ∈ ripeningOpens, (s.valve w).pos ≠ .opened ∧ (s.valve w).pos ≠ .fault)
     let faulted (kind : FaultKind) (t : State) := Quiet s t ∧ t.drive.valveFault = true
       ∧ (t.valve v).pos = .fault ∧ (t.valve v).faultKind = some kind ∧ (t.valve v).drive = .idle
       ∧ (t.valve v).waiting = [] ∧ (t.valve v).redrive = false ∧ t.meas.settling = s.meas.settling
       ∧ (∀ w, w ≠ v → t.switches w = s.switches w)
       ∧ (stays → t.rot = s.rot ∧ t.link = s.link ∧ t.seq = s.seq ∧ t.rip = s.rip ∧ t.cond = s.cond ∧ t.meas = s.meas
           ∧ (t.valve v).commanded = (s.valve v).commanded ∧ ∀ w, w ≠ v → t.valve w = s.valve w)
       ∧ (goesOn → t.rot = s.rot ∧ t.link = s.link ∧ t.seq = s.seq ∧ t.cond = s.cond ∧ t.meas = s.meas
           ∧ t.rip = { s.rip with step := .opening } ∧ (t.valve v).commanded = (s.valve v).commanded
           ∧ (∀ w, w ∉ ripeningOpens → w ≠ v → t.valve w = s.valve w)
           ∧ (∀ w ∈ ripeningOpens, (t.valve w).commanded = some .openEnd
             ∧ ((s.valve w).pos = .closed ∨ (s.valve w).pos = .unknown →
                 (t.valve w).pos = .opening ∧ (t.valve w).drive = .energized ∧ (t.valve w).timer = 0)))
       ∧ (isolates → t.rot.service = .isolated ∧ t.rot.manual = false ∧ t.rot.held = s.rot.held
           ∧ t.rot.recovery = s.rot.recovery ∧ t.rot.lastRefusal = s.rot.lastRefusal
           ∧ (t.valve .inf).commanded = some .closedEnd ∧ (t.valve .eff).commanded = some .closedEnd
           ∧ ((s.valve .ftw).commanded = some .openEnd → (t.valve .ftw).commanded = some .closedEnd)
           ∧ (v ≠ .ftw → (s.valve .ftw).commanded ≠ some .openEnd → t.valve .ftw = s.valve .ftw)
           ∧ t.valve .drn = s.valve .drn ∧ t.valve .ww = s.valve .ww ∧ t.valve .air = s.valve .air
           ∧ t.cond = { s.cond with cH := 0, cT := 0, cU := 0, urgency := 0 } ∧ t.seq = s.seq
           ∧ (s.rot.service = .filtering ∨ s.rot.service = .ripening → StatusAsked s t)
           ∧ (run → t.rip = s.rip)
           ∧ (s.rot.service = .ripening → t.rot.deferredWashNow = false ∧ t.rip.step = .idle ∧ t.rip.basis = none
               ∧ t.rip.elapsed = 0 ∧ t.rip.hold = 0 ∧ t.rip.unverified = s.rip.unverified)
           ∧ (s.rot.service = .claiming →
               t.rot.claimed = none ∧ t.rot.claimFlags = none ∧ t.rot.settleDeadline = none
                 ∧ ToldBehind (.yield s.rot.serial) s t
                 ∧ (s.link.dupAddress = false → s.link.queue.length < 4 → Frame.yield s.rot.serial ∈ t.link.queue))
           ∧ (s.rot.service = .queued → s.rot.outstanding = none → StatusAsked s t)
           ∧ (s.rot.service = .queued → ∀ k, s.rot.outstanding = some k → s.link.ordered →
               t.rot.claimed = none ∧ t.rot.claimFlags = none ∧ t.rot.settleDeadline = none
                 ∧ (s.link.unstarted.any Frame.isClaim = true →
                     t.rot.outstanding = none ∧ t.link.queue.any Frame.isClaim = false)
                 ∧ (s.link.unstarted.any Frame.isClaim = false →
                     t.rot.outstanding = some k ∧ t.link.started = s.link.started)))
     let quietState := stays ∨ goesOn ∨ isolates
     (∀ e, quietState → (s.valve v).pos = ValveEnd.moving e → (s.valve v).drive = .energized →
        (s.switches v).at e = false →
        s.cfg.travel v ≤ (s.valve v).timer + 1 →
        ∃ t, exec (.travelTimeout v) s = .next t ∧ faulted (if (s.valve v).redrive then .drift else .stuck) t
          ∧ t.switches v = s.switches v)
     ∧ (quietState → ∃ t, exec (.feedbackFault v) s = .next t ∧ faulted .feedback t
          ∧ t.switches v = ⟨true, true⟩)
     ∧ (∀ e at_, quietState → (s.valve v).pos = ValveEnd.atRest e → (s.valve v).commanded = some e →
          (s.valve v).lastDrift = some at_ → s.now - at_ < 60 →
          ∃ t, exec (.drift v) s = .next t ∧ faulted .drift t ∧ t.switches v = (s.switches v).with e false)
     ∧ (∀ e, (s.valve v).pos = ValveEnd.atRest e → (s.valve v).commanded = some e →
          ((s.valve v).lastDrift = none ∨ ∃ at_, (s.valve v).lastDrift = some at_ ∧ 60 ≤ s.now - at_) →
          ∃ t, exec (.drift v) s = .next t ∧ Quiet s t
            ∧ t.valve v = { s.valve v with
              pos := ValveEnd.moving e, drive := .energized, timer := 0, redrive := true, lastDrift := some s.now }
            ∧ (∀ w, w ≠ v → t.valve w = s.valve w ∧ t.switches w = s.switches w) ∧ t.rot = s.rot ∧ t.link = s.link
            ∧ t.seq = s.seq ∧ t.rip = s.rip ∧ t.cond = s.cond ∧ t.meas = s.meas
            ∧ t.switches v = (s.switches v).with e false))

/-- A valve fault in a wash (R130, R129), by TRAVEL_TIMEOUT, FEEDBACK_FAULT and the second loss of DRIFT: in a phase the
abort path with the cause FAULT is taken, every valve commanded closed and the blower stopped, and ends at once where no
other valve has anything to close; in the abort path the cause becomes FAULT and the close of the valve counts as ended,
which ends the wash where it was the last. The last close of the abort path, by TARGET_SWITCH_MADE, ends the wash, and
the last close of a phase entry whose opens meet a valve already in FAULT takes the abort path (R115). A wash ends into
ISOLATED with a DONE of its outcome and the STATUS of the change behind it (R131, R45, R54), no ripening running in
WASHING (R134). -/
def Obligations.FaultAbortsWash : Prop :=
  ∀ (v : Valve) (s : State), s.startup.stage = .running → s.rot.service = .washing →
    (let ended (outcome : WashOutcome) (t : State) := t.rot.service = .isolated
       ∧ t.rot.deferredTakeOut = false ∧ t.seq.activity = .idle ∧ t.seq.subStep = none ∧ t.seq.abortCause = none
       ∧ t.seq.washClock = s.seq.washClock ∧ t.rip = s.rip
       ∧ (s.link.dupAddress = false → s.link.queue.length ≤ 2 → Frame.done outcome s.seq.washClock ∈ t.link.queue)
       ∧ ToldBehind (.done outcome s.seq.washClock) s t
     let goesOn (t : State) (q : Sequencer) := t.rot = s.rot ∧ t.link = s.link ∧ t.cond = s.cond ∧ t.rip = s.rip
       ∧ t.seq = { q with activity := .abortPath, abortCause := some .fault, bound := s.cfg.travelMax + 1 }
     let left : Sequencer := { s.seq with subStep := none, rinseWater := none }
     (∀ (c : Instr) (kind : FaultKind), s.faultsBy v c kind → s.seq.activity ≠ .idle →
      (let phase := s.seq.activity ≠ .abortPath
       let waited (w : Valve) := w ≠ v ∧ Requester.sequencer ∈ (s.valve w).waiting
       ∃ t, exec c s = .next t ∧ Quiet s t ∧ (t.valve v).pos = .fault ∧ (t.valve v).faultKind = some kind
         ∧ (t.valve v).drive = .idle ∧ (t.valve v).waiting = [] ∧ (t.valve v).redrive = false
         ∧ t.drive.valveFault = true ∧ t.seq.washClock = s.seq.washClock ∧ t.meas.settling = s.meas.settling
         ∧ (phase → (∀ w, (t.valve w).commanded = some .closedEnd) ∧ t.drive.blower.output = false
             ∧ t.drive.blower.mode = .stopped ∧ t.drive.blower.pulse = none)
         ∧ (phase → (∃ w, w ≠ v ∧ (s.valve w).pos ≠ .closed ∧ (s.valve w).pos ≠ .fault) →
             goesOn t left)
         ∧ (phase → s.ripeningConfined →
             (∀ w, w ≠ v → ((s.valve w).pos = .closed ∨ (s.valve w).pos = .fault) ∧ ¬ waited w) → ended .fault t)
         ∧ (¬ phase → (∃ w, waited w) → goesOn t s.seq)
         ∧ (¬ phase → s.ripeningConfined → (∀ w, ¬ waited w) → ended .fault t)
         ∧ (¬ phase → ∀ w, w ≠ v → t.valve w = s.valve w)))
     ∧ (s.ripeningConfined → s.seq.activity = .abortPath → s.seq.abortCause ≠ none → (s.valve v).pos = .closing →
      (s.valve v).drive = .energized → (∀ w, w ≠ v → (s.valve w).waiting = []) →
      ∃ t, exec (.targetSwitchMade v) s = .next t ∧ Quiet s t ∧ (t.valve v).pos = .closed
        ∧ ended (if s.seq.abortCause = some .fault then .fault else .aborted) t)
     ∧ (let opens := phaseOpens s.seq.airSkipped s.seq.activity
        s.seq.activity ≠ .idle → s.seq.activity ≠ .abortPath → s.seq.subStep = some .closing → v ∉ opens →
        (s.valve v).pos = .closing → (s.valve v).drive = .energized → (∀ w, w ≠ v → (s.valve w).waiting = []) →
        (∃ w ∈ opens, (s.valve w).pos = .fault) →
        ∃ t, exec (.targetSwitchMade v) s = .next t ∧ Quiet s t ∧ (t.valve v).pos = .closed
          ∧ (∀ w, (t.valve w).commanded = some .closedEnd) ∧ t.drive.blower.output = false
          ∧ t.drive.blower.mode = .stopped ∧ t.drive.blower.pulse = none ∧ t.seq.washClock = s.seq.washClock
          ∧ ((∃ w, w ≠ v ∧ (s.valve w).pos ≠ .fault ∧ (w ∈ opens ∨ (s.valve w).pos ≠ .closed)) → goesOn t left)
          ∧ (s.ripeningConfined →
              (∀ w, w ≠ v → (s.valve w).pos = .fault ∨ w ∉ opens ∧ (s.valve w).pos = .closed) → ended .fault t)))

/-- DRIVE_SECOND and REVERSAL_PAUSE_END with no target switch made and no travel time run out (R147, R148): an energized
drive counts, a pause ends with its coil energized and its timer from 0, and nothing else of the station changes but the
blower; a valve that has reached its new target during the pause completes as the pause ends, with a capture of 0, in
STANDBY and ISOLATED with no more effect than that. Of the blower (R155, R156), while its feedback does not fail: with
the output on, the pressure switch made is seen and stops the feedback timer, and the timer counts the second otherwise;
the pulse's elapsed seconds count, also while AIR holds the output off, and at t_on or t_off the pulse passes to its
other sub-state at 0, with the output off, or on where AIR is OPEN and no fault stands. Where feedback fails, at 10 s
without it or lost after it was seen, a drive second with every valve at rest is BLOWER_FEEDBACK_TIMEOUT, or the
PRESSURE_SWITCH_CHANGE that loses it. That the timer's fault is still found with the output off, in the second kept from
AIR's end, which the premise on that second shuts out of the first clause, is the model's choice (entry 17); that
BLOWER_FEEDBACK_TIMEOUT is that whole drive second is entry 3, and feedback before pulses entry 18. -/
def Obligations.DriveSecondTimesMoves : Prop :=
  (∀ s : State, s.startup.stage = .running → s.airInterlock →
    (∀ v e, (s.valve v).pos = ValveEnd.moving e → (s.switches v).at e = false) →
    (∀ v, (s.valve v).drive ≠ .idle → (s.valve v).timer + 1 < s.cfg.travel v) →
    (let b := s.drive.blower
     let made := s.pins.pressure
     let starts := (s.valve .air).pos = .opened ∧ b.fault = false
     let read : BlowerRec := { b with
       feedbackSeen := b.feedbackSeen || (b.output && made)
       feedbackTimer := if b.output then if made then 0 else b.feedbackTimer + 1 else b.feedbackTimer }
     (b.output = true → made = false → b.feedbackSeen = false ∧ b.feedbackTimer + 1 < 10) →
     (b.output = false → s.drive.airEndStop = some s.now →
       made = true ∨ b.feedbackSeen = true ∨ b.feedbackTimer + 1 < 10 ∨ b.fault = true) →
     (∀ p, b.pulse = some p → b.mode = .pulsed ∧ (b.output = true ↔ p.on = true ∧ starts)) →
     ∃ t, exec .driveSecond s = .next t ∧ t = { s with drive := t.drive }
      ∧ (∀ v, t.valve v = (match (s.valve v).drive with
          | .idle => s.valve v
          | .pause => { s.valve v with drive := .energized }
          | .energized => { s.valve v with timer := (s.valve v).timer + 1 }))
      ∧ (b.pulse = none → t.drive.blower = read)
      ∧ (∀ on k, b.pulse = some ⟨on, k⟩ → k + 1 < (if on then s.cfg.tOn else s.cfg.tOff) →
          t.drive.blower = { read with pulse := some ⟨on, k + 1⟩ })
      ∧ (∀ k, b.pulse = some ⟨true, k⟩ → s.cfg.tOn ≤ k + 1 →
          t.drive.blower = { read with pulse := some ⟨false, 0⟩, output := false })
      ∧ (∀ k, b.pulse = some ⟨false, k⟩ → s.cfg.tOff ≤ k + 1 →
          (starts → t.drive.blower = { b with
            pulse := some ⟨true, 0⟩, output := true, feedbackSeen := made
            feedbackTimer := if made then 0 else b.feedbackTimer })
          ∧ (¬ starts → t.drive.blower = { b with pulse := some ⟨true, 0⟩ }))))
  ∧ (∀ (v : Valve) (s : State), s.startup.stage = .running → (s.valve v).drive = .pause →
      (∀ e, (s.valve v).pos = ValveEnd.moving e → (s.switches v).at e = false) →
      ∃ t, exec (.reversalPauseEnd v) s = .next t
        ∧ t = { s with drive := t.drive } ∧ t.valve v = { s.valve v with drive := .energized }
        ∧ ∀ w, w ≠ v → t.valve w = s.valve w)
  ∧ (∀ (v : Valve) (e : ValveEnd) (s : State), s.startup.stage = .running → s.out → (s.valve v).drive = .pause →
      (s.valve v).timer = 0 → (s.valve v).redrive = false → (s.valve v).pos = ValveEnd.moving e →
      (s.switches v).at e = true → ∃ t, exec (.reversalPauseEnd v) s = .next t
        ∧ t = { s with drive := t.drive, meas := { s.meas with settling := t.meas.settling } }
        ∧ t.valve v = { s.valve v with
          pos := ValveEnd.atRest e, drive := .idle, waiting := [], lastTravel := some 0, slow := false }
        ∧ (∀ w, w ≠ v → t.valve w = s.valve w)
        ∧ t.meas.settling = (if e = .openEnd ∧ (v = .eff ∨ v = .ftw) then some 0 else s.meas.settling))
  ∧ (∀ s : State, s.startup.stage = .running → s.flagsTrue → s.airInterlock → s.noValveFault →
      (∀ v, (s.valve v).drive = .idle) → s.pins.pressure = false →
      (s.drive.blower.output = true ∨ s.drive.airEndStop = some s.now ∧ s.drive.blower.fault = false →
          s.drive.blower.feedbackSeen = false → 9 ≤ s.drive.blower.feedbackTimer →
          exec .driveSecond s = exec .blowerFeedbackTimeout s)
      ∧ (s.drive.blower.output = true → s.drive.blower.feedbackSeen = true →
          exec .driveSecond s = exec (.pressureSwitchChange false) s))

/-- PULSE_ON_END and PULSE_OFF_END (R155, R154, R156): the pulse passes to its other sub-state at 0, with the output
off, or on where AIR is OPEN and no fault stands, which is a start whose feedback is looked for afresh.
PRESSURE_SWITCH_CHANGE and BLOWER_FEEDBACK_TIMEOUT (R156, R119): feedback made is seen and stops the timer; feedback
lost after it was seen, or 10 s of output without it, faults the blower, and in WASHING the air part of the wash is
given up: AIR ends into AIR_WATER, or RINSE where T_aw is 0, and AIR_WATER runs on with AIR closing. Where AIR's end with
T_aw = 0 was taken first in the same second, the timer's fault is found in RINSE and sets air-skipped; a release of the
switch is such a fault, or the end of an on-period (R156), by a free value (entry 17). That BLOWER_FEEDBACK_TIMEOUT is
the drive second's check of feedback is entry 3. -/
def Obligations.BlowerPulsesAndFeedback : Prop :=
  (∀ (k : Nat) (s : State), s.drive.blower.mode = .pulsed →
      (s.drive.blower.pulse = some ⟨true, k⟩ → s.cfg.tOn ≤ k + 1 → exec .pulseOnEnd s = .next { s with
        drive := { s.drive with blower := { s.drive.blower with pulse := some ⟨false, 0⟩, output := false } } })
      ∧ (s.drive.blower.pulse = some ⟨false, k⟩ → s.cfg.tOff ≤ k + 1 → s.drive.blower.output = false →
        ∃ t, exec .pulseOffEnd s = .next t ∧ t = { s with drive := { s.drive with blower := t.drive.blower } }
          ∧ t.drive.blower.pulse = some ⟨true, 0⟩ ∧ t.drive.blower.mode = .pulsed
          ∧ t.drive.blower.fault = s.drive.blower.fault
          ∧ (t.drive.blower.output = true ↔ (s.valve .air).pos = .opened ∧ s.drive.blower.fault = false)
          ∧ (t.drive.blower.output = true → t.drive.blower.feedbackSeen = s.pins.pressure
              ∧ t.drive.blower.feedbackTimer = if s.pins.pressure then 0 else s.drive.blower.feedbackTimer)))
  ∧ (∀ s : State,
        (s.drive.blower.output = true → exec (.pressureSwitchChange true) s = .next { s with
          pins := { s.pins with pressure := true }
          drive := { s.drive with blower := { s.drive.blower with feedbackSeen := true, feedbackTimer := 0 } } })
        ∧ (s.drive.blower.output = false → ∀ made,
          made = true ∨ s.drive.airEndStop ≠ some s.now ∨ s.drive.blower.fault = true ∨ s.drive.blower.feedbackSeen = false →
          exec (.pressureSwitchChange made) s = .next { s with pins := { s.pins with pressure := made } })
        ∧ (s.drive.blower.output = true → s.drive.blower.feedbackSeen = true → s.rot.service ≠ .washing →
          exec (.pressureSwitchChange false) s = .next { s with
            pins := { s.pins with pressure := false }
            drive := { s.drive with
              blower := { s.drive.blower with output := false, mode := .stopped, pulse := none, fault := true } } })
        ∧ (s.drive.blower.output = true → s.drive.blower.feedbackSeen = false → s.pins.pressure = false →
          9 ≤ s.drive.blower.feedbackTimer → s.rot.service ≠ .washing → exec .blowerFeedbackTimeout s = .next { s with
            drive := { s.drive with
              blower := { s.drive.blower with
                output := false, mode := .stopped, pulse := none, fault := true, feedbackTimer := 10 } } }))
  ∧ (∀ s : State, s.rot.service = .washing → s.drive.blower.output = true →
     let lost := s.drive.blower.feedbackSeen = true
     let late := s.drive.blower.feedbackSeen = false ∧ s.pins.pressure = false ∧ 9 ≤ s.drive.blower.feedbackTimer
     let unpressed := { s with pins := { s.pins with pressure := false } }
     let stopped (t : State) := t.rot = s.rot ∧ t.link = s.link ∧ t.cond = s.cond ∧ t.rip = s.rip
       ∧ t.drive.blower.fault = true ∧ t.drive.blower.output = false ∧ t.drive.blower.mode = .stopped
       ∧ t.drive.blower.pulse = none ∧ t.seq.airSkipped = true ∧ (t.valve .air).pos = .closing
       ∧ (t.valve .air).commanded = some .closedEnd
     let airEnds (t : State) := stopped t ∧ t.seq.subStep = some .closing ∧ t.seq.washClock = s.seq.washClock
       ∧ t.seq.activity = (if s.cfg.tAw = 0 then .rinse else .airWater)
     let waterRuns (t : State) := stopped t ∧ t.seq = { s.seq with airSkipped := true, bound := s.cfg.washBound s.seq }
       ∧ ∀ v, v ≠ .air → t.valve v = s.valve v
     (s.seq.activity = .air → s.seq.subStep = some .running → s.inPattern .air → (∀ v, (s.valve v).waiting = []) →
        (lost → ∃ t, exec (.pressureSwitchChange false) s = .next t ∧ Quiet unpressed t ∧ airEnds t)
        ∧ (late → ∃ t, exec .blowerFeedbackTimeout s = .next t ∧ Quiet s t ∧ airEnds t
            ∧ t.drive.blower.feedbackTimer = 10))
     ∧ (s.seq.activity = .airWater → (s.seq.subStep = some .opening ∨ s.seq.subStep = some .running) →
        (s.valve .air).pos = .opened →
        (lost → ∃ t, exec (.pressureSwitchChange false) s = .next t ∧ Quiet unpressed t ∧ waterRuns t)
        ∧ (late → ∃ t, exec .blowerFeedbackTimeout s = .next t ∧ Quiet s t ∧ waterRuns t
            ∧ t.drive.blower.feedbackTimer = 10)))
  ∧ (∀ s : State, s.rot.service = .washing → s.seq.activity = .rinse → s.drive.blower.output = false →
     s.drive.blower.fault = false → s.drive.airEndStop = some s.now →
     let unpressed := { s with pins := { s.pins with pressure := false } }
     let taken (u : State) (timer : Nat) := { u with
       seq := { s.seq with airSkipped := true, bound := s.cfg.washBound s.seq }
       drive := { s.drive with blower := { s.drive.blower with
         output := false, mode := .stopped, pulse := none, fault := true, feedbackTimer := timer } } }
     (s.drive.blower.feedbackSeen = false → s.pins.pressure = false → 9 ≤ s.drive.blower.feedbackTimer →
        exec .blowerFeedbackTimeout s = .next (taken s 10))
     ∧ (s.drive.blower.feedbackSeen = true →
        exec (.pressureSwitchChange false) s = .next
          (if Config.releaseBeforeStop s.now then taken unpressed s.drive.blower.feedbackTimer else unpressed)))

/-- LIMIT_SWITCH_CHANGE in LISTEN (R152, R149): the position follows the two switches, both made is a FEEDBACK fault,
and neither the service state nor the outputs change: no coil is energized, and a blower output that is off stays off.
That an UNKNOWN valve's position follows them too is entry 28. -/
def Obligations.SwitchesSetPositionBeforeRelease : Prop :=
  ∀ (v : Valve) (e : ValveEnd) (made : Bool) (s : State), s.startup.stage = .listen → s.rot.service = .start →
    (s.valve v).pos ≠ .fault →
    ∃ t, exec (.limitSwitchChange v e made) s = .next t ∧ Quiet s t ∧ t.rot = s.rot ∧ t.seq = s.seq
      ∧ t.startup = s.startup ∧ (s.drive.blower.output = false → t.drive.blower = s.drive.blower)
      ∧ ((s.valve v).drive = .idle → (t.valve v).drive = .idle)
      ∧ (t.switches v).at e = made ∧ (t.switches v).at (ValveEnd.other e) = (s.switches v).at (ValveEnd.other e)
      ∧ (∀ w, w ≠ v → t.valve w = s.valve w ∧ t.switches w = s.switches w)
      ∧ (t.valve v).commanded = (s.valve v).commanded
      ∧ (let w := t.switches v
         (w.closedMade = true → w.openMade = true →
            (t.valve v).pos = .fault ∧ (t.valve v).faultKind = some .feedback ∧ t.drive.valveFault = true)
          ∧ (w.closedMade = true → w.openMade = false → (t.valve v).pos = .closed)
          ∧ (w.closedMade = false → w.openMade = true → (t.valve v).pos = .opened)
          ∧ (w.closedMade = false → w.openMade = false → (t.valve v).pos = .unknown))

/-! ## What every step keeps -/

/-- Whatever command runs and whatever second passes, the memory keeps its canonical form. -/
def Obligations.MemoryFormKept : Prop :=
  ∀ s t : State, s.memoryCanonical → step s = .next t → t.memoryCanonical

/-- R10, R144, R154: the channel-fault and valve-fault flags tell the truth and the blower is on only behind an open AIR
valve without a fault, after every step from a state in which they do. R154, R115: the blower runs only in AIR and
AIR_WATER of a wash, so never outside WASHING, and each of EFF, DRN and FTW is commanded open only where its pattern has
it, so never two of them together, after every step from a state in which that holds, with start-up, wash and ripening
confined to their service states (RipeningStepConfined). -/
def Obligations.FlagsAndInterlockKept : Prop :=
  (∀ s t : State, s.flagsTrue ∧ s.airInterlock → step s = .next t → t.flagsTrue ∧ t.airInterlock)
  ∧ (∀ s t : State, s.startConfined ∧ s.washConfined ∧ s.ripeningConfined ∧ s.deliveredNamed → step s = .next t →
      (s.blowerConfined → t.blowerConfined)
      ∧ (s.blowerConfined → s.airInterlock → t.drive.blower.output = true →
          (t.valve .air).pos = .opened ∧ t.drive.blower.fault = false ∧ t.rot.service = .washing)
      ∧ (s.outletsConfined → t.outletsConfined
          ∧ ∀ v ∈ [Valve.eff, .drn, .ftw], ∀ w ∈ [Valve.eff, .drn, .ftw], (t.valve v).commanded = some .openEnd →
              (t.valve w).commanded = some .openEnd → v = w))

/-- R63, R64, R73, R74: the transmit queue keeps its bounds and its order, and a station with a duplicate address stays
silent, after every step from a state in which they do. -/
def Obligations.QueueAndSilenceKept : Prop :=
  ∀ s t : State, s.link.ordered ∧ s.silent → step s = .next t → t.link.ordered ∧ t.silent

/-- The state at reset has every property that steps keep: those of the three statements before, and that of the service
states. -/
def Obligations.ResetIsSafe : Prop :=
  State.reset.memoryCanonical ∧ State.reset.flagsTrue ∧ State.reset.airInterlock ∧ State.reset.link.ordered
    ∧ State.reset.silent ∧ State.reset.ripeningConfined ∧ State.reset.startConfined ∧ State.reset.washConfined
    ∧ State.reset.deliveredNamed ∧ State.reset.blowerConfined ∧ State.reset.outletsConfined

/-- After every step from a state in which it is so: in every stage but RUNNING the service state is START (R37), the
wash sequencer stands in IDLE outside WASHING (R112), the ripening step is IDLE outside RIPENING (R134), and every
delivered trigger that waits names the service state that stands (R34). -/
def Obligations.RipeningStepConfined : Prop :=
  ∀ s t : State, s.startConfined ∧ s.washConfined ∧ s.ripeningConfined ∧ s.deliveredNamed → step s = .next t →
    t.startConfined ∧ t.washConfined ∧ t.ripeningConfined ∧ t.deliveredNamed
end

