-- ==== Sys2Proof/Laws/State.lean ====
section
/-! SUPPORT. One lemma per field per update: what an update of the state leaves as it was, true by `rfl`. -/

namespace Sys2Proof.Machine

variable (s : State)

/-! ### `State.setValve` -/

@[simp] theorem State.setValve_now (v : Valve) (r : ValveRec) : (s.setValve v r).now = s.now := rfl
@[simp] theorem State.setValve_pins (v : Valve) (r : ValveRec) : (s.setValve v r).pins = s.pins := rfl
@[simp] theorem State.setValve_mem (v : Valve) (r : ValveRec) : (s.setValve v r).mem = s.mem := rfl
@[simp] theorem State.setValve_meas (v : Valve) (r : ValveRec) : (s.setValve v r).meas = s.meas := rfl
@[simp] theorem State.setValve_cond (v : Valve) (r : ValveRec) : (s.setValve v r).cond = s.cond := rfl
@[simp] theorem State.setValve_rot (v : Valve) (r : ValveRec) : (s.setValve v r).rot = s.rot := rfl
@[simp] theorem State.setValve_link (v : Valve) (r : ValveRec) : (s.setValve v r).link = s.link := rfl
@[simp] theorem State.setValve_peers (v : Valve) (r : ValveRec) : (s.setValve v r).peers = s.peers := rfl
@[simp] theorem State.setValve_seq (v : Valve) (r : ValveRec) : (s.setValve v r).seq = s.seq := rfl
@[simp] theorem State.setValve_rip (v : Valve) (r : ValveRec) : (s.setValve v r).rip = s.rip := rfl
@[simp] theorem State.setValve_startup (v : Valve) (r : ValveRec) : (s.setValve v r).startup = s.startup := rfl
@[simp] theorem State.setValve_port (v : Valve) (r : ValveRec) : (s.setValve v r).port = s.port := rfl
@[simp] theorem State.setValve_delivered (v : Valve) (r : ValveRec) : (s.setValve v r).delivered = s.delivered := rfl
@[simp] theorem State.setValve_freeCount (v : Valve) (r : ValveRec) : (s.setValve v r).freeCount = s.freeCount := rfl
@[simp] theorem State.setValve_pending (v : Valve) (r : ValveRec) : (s.setValve v r).pending = s.pending := rfl

/-! ### `State.setBlower` -/

@[simp] theorem State.setBlower_now (b : BlowerRec) : (s.setBlower b).now = s.now := rfl
@[simp] theorem State.setBlower_pins (b : BlowerRec) : (s.setBlower b).pins = s.pins := rfl
@[simp] theorem State.setBlower_mem (b : BlowerRec) : (s.setBlower b).mem = s.mem := rfl
@[simp] theorem State.setBlower_meas (b : BlowerRec) : (s.setBlower b).meas = s.meas := rfl
@[simp] theorem State.setBlower_cond (b : BlowerRec) : (s.setBlower b).cond = s.cond := rfl
@[simp] theorem State.setBlower_rot (b : BlowerRec) : (s.setBlower b).rot = s.rot := rfl
@[simp] theorem State.setBlower_link (b : BlowerRec) : (s.setBlower b).link = s.link := rfl
@[simp] theorem State.setBlower_peers (b : BlowerRec) : (s.setBlower b).peers = s.peers := rfl
@[simp] theorem State.setBlower_seq (b : BlowerRec) : (s.setBlower b).seq = s.seq := rfl
@[simp] theorem State.setBlower_rip (b : BlowerRec) : (s.setBlower b).rip = s.rip := rfl
@[simp] theorem State.setBlower_startup (b : BlowerRec) : (s.setBlower b).startup = s.startup := rfl
@[simp] theorem State.setBlower_port (b : BlowerRec) : (s.setBlower b).port = s.port := rfl
@[simp] theorem State.setBlower_delivered (b : BlowerRec) : (s.setBlower b).delivered = s.delivered := rfl
@[simp] theorem State.setBlower_freeCount (b : BlowerRec) : (s.setBlower b).freeCount = s.freeCount := rfl
@[simp] theorem State.setBlower_pending (b : BlowerRec) : (s.setBlower b).pending = s.pending := rfl

/-! ### `State.setAirEndStop` -/

@[simp] theorem State.setAirEndStop_now (x : Option Nat) : (s.setAirEndStop x).now = s.now := rfl
@[simp] theorem State.setAirEndStop_pins (x : Option Nat) : (s.setAirEndStop x).pins = s.pins := rfl
@[simp] theorem State.setAirEndStop_mem (x : Option Nat) : (s.setAirEndStop x).mem = s.mem := rfl
@[simp] theorem State.setAirEndStop_meas (x : Option Nat) : (s.setAirEndStop x).meas = s.meas := rfl
@[simp] theorem State.setAirEndStop_cond (x : Option Nat) : (s.setAirEndStop x).cond = s.cond := rfl
@[simp] theorem State.setAirEndStop_rot (x : Option Nat) : (s.setAirEndStop x).rot = s.rot := rfl
@[simp] theorem State.setAirEndStop_link (x : Option Nat) : (s.setAirEndStop x).link = s.link := rfl
@[simp] theorem State.setAirEndStop_peers (x : Option Nat) : (s.setAirEndStop x).peers = s.peers := rfl
@[simp] theorem State.setAirEndStop_seq (x : Option Nat) : (s.setAirEndStop x).seq = s.seq := rfl
@[simp] theorem State.setAirEndStop_rip (x : Option Nat) : (s.setAirEndStop x).rip = s.rip := rfl
@[simp] theorem State.setAirEndStop_startup (x : Option Nat) : (s.setAirEndStop x).startup = s.startup := rfl
@[simp] theorem State.setAirEndStop_port (x : Option Nat) : (s.setAirEndStop x).port = s.port := rfl
@[simp] theorem State.setAirEndStop_delivered (x : Option Nat) : (s.setAirEndStop x).delivered = s.delivered := rfl
@[simp] theorem State.setAirEndStop_freeCount (x : Option Nat) : (s.setAirEndStop x).freeCount = s.freeCount := rfl
@[simp] theorem State.setAirEndStop_pending (x : Option Nat) : (s.setAirEndStop x).pending = s.pending := rfl

/-! ### `State.setBlowerFollowing` -/

@[simp] theorem State.setBlowerFollowing_now (b : BlowerRec) : (s.setBlowerFollowing b).now = s.now := rfl
@[simp] theorem State.setBlowerFollowing_pins (b : BlowerRec) : (s.setBlowerFollowing b).pins = s.pins := rfl
@[simp] theorem State.setBlowerFollowing_mem (b : BlowerRec) : (s.setBlowerFollowing b).mem = s.mem := rfl
@[simp] theorem State.setBlowerFollowing_meas (b : BlowerRec) : (s.setBlowerFollowing b).meas = s.meas := rfl
@[simp] theorem State.setBlowerFollowing_cond (b : BlowerRec) : (s.setBlowerFollowing b).cond = s.cond := rfl
@[simp] theorem State.setBlowerFollowing_rot (b : BlowerRec) : (s.setBlowerFollowing b).rot = s.rot := rfl
@[simp] theorem State.setBlowerFollowing_link (b : BlowerRec) : (s.setBlowerFollowing b).link = s.link := rfl
@[simp] theorem State.setBlowerFollowing_peers (b : BlowerRec) : (s.setBlowerFollowing b).peers = s.peers := rfl
@[simp] theorem State.setBlowerFollowing_seq (b : BlowerRec) : (s.setBlowerFollowing b).seq = s.seq := rfl
@[simp] theorem State.setBlowerFollowing_rip (b : BlowerRec) : (s.setBlowerFollowing b).rip = s.rip := rfl
@[simp] theorem State.setBlowerFollowing_startup (b : BlowerRec) : (s.setBlowerFollowing b).startup = s.startup := rfl
@[simp] theorem State.setBlowerFollowing_port (b : BlowerRec) : (s.setBlowerFollowing b).port = s.port := rfl
@[simp] theorem State.setBlowerFollowing_delivered (b : BlowerRec) : (s.setBlowerFollowing b).delivered = s.delivered := rfl
@[simp] theorem State.setBlowerFollowing_freeCount (b : BlowerRec) : (s.setBlowerFollowing b).freeCount = s.freeCount := rfl
@[simp] theorem State.setBlowerFollowing_pending (b : BlowerRec) : (s.setBlowerFollowing b).pending = s.pending := rfl

/-! ### `State.setSwitches` -/

@[simp] theorem State.setSwitches_now (v : Valve) (w : Switches) : (s.setSwitches v w).now = s.now := rfl
@[simp] theorem State.setSwitches_mem (v : Valve) (w : Switches) : (s.setSwitches v w).mem = s.mem := rfl
@[simp] theorem State.setSwitches_meas (v : Valve) (w : Switches) : (s.setSwitches v w).meas = s.meas := rfl
@[simp] theorem State.setSwitches_cond (v : Valve) (w : Switches) : (s.setSwitches v w).cond = s.cond := rfl
@[simp] theorem State.setSwitches_rot (v : Valve) (w : Switches) : (s.setSwitches v w).rot = s.rot := rfl
@[simp] theorem State.setSwitches_link (v : Valve) (w : Switches) : (s.setSwitches v w).link = s.link := rfl
@[simp] theorem State.setSwitches_peers (v : Valve) (w : Switches) : (s.setSwitches v w).peers = s.peers := rfl
@[simp] theorem State.setSwitches_seq (v : Valve) (w : Switches) : (s.setSwitches v w).seq = s.seq := rfl
@[simp] theorem State.setSwitches_rip (v : Valve) (w : Switches) : (s.setSwitches v w).rip = s.rip := rfl
@[simp] theorem State.setSwitches_drive (v : Valve) (w : Switches) : (s.setSwitches v w).drive = s.drive := rfl
@[simp] theorem State.setSwitches_startup (v : Valve) (w : Switches) : (s.setSwitches v w).startup = s.startup := rfl
@[simp] theorem State.setSwitches_port (v : Valve) (w : Switches) : (s.setSwitches v w).port = s.port := rfl
@[simp] theorem State.setSwitches_delivered (v : Valve) (w : Switches) : (s.setSwitches v w).delivered = s.delivered := rfl
@[simp] theorem State.setSwitches_freeCount (v : Valve) (w : Switches) : (s.setSwitches v w).freeCount = s.freeCount := rfl
@[simp] theorem State.setSwitches_pending (v : Valve) (w : Switches) : (s.setSwitches v w).pending = s.pending := rfl

/-! ### `State.setChannel` -/

@[simp] theorem State.setChannel_now (ch : Channel) (r : ChannelRec) : (s.setChannel ch r).now = s.now := rfl
@[simp] theorem State.setChannel_pins (ch : Channel) (r : ChannelRec) : (s.setChannel ch r).pins = s.pins := rfl
@[simp] theorem State.setChannel_mem (ch : Channel) (r : ChannelRec) : (s.setChannel ch r).mem = s.mem := rfl
@[simp] theorem State.setChannel_cond (ch : Channel) (r : ChannelRec) : (s.setChannel ch r).cond = s.cond := rfl
@[simp] theorem State.setChannel_rot (ch : Channel) (r : ChannelRec) : (s.setChannel ch r).rot = s.rot := rfl
@[simp] theorem State.setChannel_link (ch : Channel) (r : ChannelRec) : (s.setChannel ch r).link = s.link := rfl
@[simp] theorem State.setChannel_peers (ch : Channel) (r : ChannelRec) : (s.setChannel ch r).peers = s.peers := rfl
@[simp] theorem State.setChannel_seq (ch : Channel) (r : ChannelRec) : (s.setChannel ch r).seq = s.seq := rfl
@[simp] theorem State.setChannel_rip (ch : Channel) (r : ChannelRec) : (s.setChannel ch r).rip = s.rip := rfl
@[simp] theorem State.setChannel_drive (ch : Channel) (r : ChannelRec) : (s.setChannel ch r).drive = s.drive := rfl
@[simp] theorem State.setChannel_startup (ch : Channel) (r : ChannelRec) : (s.setChannel ch r).startup = s.startup := rfl
@[simp] theorem State.setChannel_port (ch : Channel) (r : ChannelRec) : (s.setChannel ch r).port = s.port := rfl
@[simp] theorem State.setChannel_delivered (ch : Channel) (r : ChannelRec) : (s.setChannel ch r).delivered = s.delivered := rfl
@[simp] theorem State.setChannel_freeCount (ch : Channel) (r : ChannelRec) : (s.setChannel ch r).freeCount = s.freeCount := rfl
@[simp] theorem State.setChannel_pending (ch : Channel) (r : ChannelRec) : (s.setChannel ch r).pending = s.pending := rfl

/-! ### `State.setSeq` -/

@[simp] theorem State.setSeq_now (q : Sequencer) : (s.setSeq q).now = s.now := rfl
@[simp] theorem State.setSeq_pins (q : Sequencer) : (s.setSeq q).pins = s.pins := rfl
@[simp] theorem State.setSeq_mem (q : Sequencer) : (s.setSeq q).mem = s.mem := rfl
@[simp] theorem State.setSeq_meas (q : Sequencer) : (s.setSeq q).meas = s.meas := rfl
@[simp] theorem State.setSeq_cond (q : Sequencer) : (s.setSeq q).cond = s.cond := rfl
@[simp] theorem State.setSeq_rot (q : Sequencer) : (s.setSeq q).rot = s.rot := rfl
@[simp] theorem State.setSeq_link (q : Sequencer) : (s.setSeq q).link = s.link := rfl
@[simp] theorem State.setSeq_peers (q : Sequencer) : (s.setSeq q).peers = s.peers := rfl
@[simp] theorem State.setSeq_rip (q : Sequencer) : (s.setSeq q).rip = s.rip := rfl
@[simp] theorem State.setSeq_drive (q : Sequencer) : (s.setSeq q).drive = s.drive := rfl
@[simp] theorem State.setSeq_startup (q : Sequencer) : (s.setSeq q).startup = s.startup := rfl
@[simp] theorem State.setSeq_port (q : Sequencer) : (s.setSeq q).port = s.port := rfl
@[simp] theorem State.setSeq_delivered (q : Sequencer) : (s.setSeq q).delivered = s.delivered := rfl
@[simp] theorem State.setSeq_freeCount (q : Sequencer) : (s.setSeq q).freeCount = s.freeCount := rfl
@[simp] theorem State.setSeq_pending (q : Sequencer) : (s.setSeq q).pending = s.pending := rfl

/-! ### `State.setRip` -/

@[simp] theorem State.setRip_now (r : Ripening) : (s.setRip r).now = s.now := rfl
@[simp] theorem State.setRip_pins (r : Ripening) : (s.setRip r).pins = s.pins := rfl
@[simp] theorem State.setRip_mem (r : Ripening) : (s.setRip r).mem = s.mem := rfl
@[simp] theorem State.setRip_meas (r : Ripening) : (s.setRip r).meas = s.meas := rfl
@[simp] theorem State.setRip_cond (r : Ripening) : (s.setRip r).cond = s.cond := rfl
@[simp] theorem State.setRip_rot (r : Ripening) : (s.setRip r).rot = s.rot := rfl
@[simp] theorem State.setRip_link (r : Ripening) : (s.setRip r).link = s.link := rfl
@[simp] theorem State.setRip_peers (r : Ripening) : (s.setRip r).peers = s.peers := rfl
@[simp] theorem State.setRip_seq (r : Ripening) : (s.setRip r).seq = s.seq := rfl
@[simp] theorem State.setRip_drive (r : Ripening) : (s.setRip r).drive = s.drive := rfl
@[simp] theorem State.setRip_startup (r : Ripening) : (s.setRip r).startup = s.startup := rfl
@[simp] theorem State.setRip_port (r : Ripening) : (s.setRip r).port = s.port := rfl
@[simp] theorem State.setRip_delivered (r : Ripening) : (s.setRip r).delivered = s.delivered := rfl
@[simp] theorem State.setRip_freeCount (r : Ripening) : (s.setRip r).freeCount = s.freeCount := rfl
@[simp] theorem State.setRip_pending (r : Ripening) : (s.setRip r).pending = s.pending := rfl

/-! ### `State.setPort` -/

@[simp] theorem State.setPort_now (p : Port) : (s.setPort p).now = s.now := rfl
@[simp] theorem State.setPort_pins (p : Port) : (s.setPort p).pins = s.pins := rfl
@[simp] theorem State.setPort_mem (p : Port) : (s.setPort p).mem = s.mem := rfl
@[simp] theorem State.setPort_meas (p : Port) : (s.setPort p).meas = s.meas := rfl
@[simp] theorem State.setPort_cond (p : Port) : (s.setPort p).cond = s.cond := rfl
@[simp] theorem State.setPort_rot (p : Port) : (s.setPort p).rot = s.rot := rfl
@[simp] theorem State.setPort_link (p : Port) : (s.setPort p).link = s.link := rfl
@[simp] theorem State.setPort_peers (p : Port) : (s.setPort p).peers = s.peers := rfl
@[simp] theorem State.setPort_seq (p : Port) : (s.setPort p).seq = s.seq := rfl
@[simp] theorem State.setPort_rip (p : Port) : (s.setPort p).rip = s.rip := rfl
@[simp] theorem State.setPort_drive (p : Port) : (s.setPort p).drive = s.drive := rfl
@[simp] theorem State.setPort_startup (p : Port) : (s.setPort p).startup = s.startup := rfl
@[simp] theorem State.setPort_delivered (p : Port) : (s.setPort p).delivered = s.delivered := rfl
@[simp] theorem State.setPort_freeCount (p : Port) : (s.setPort p).freeCount = s.freeCount := rfl
@[simp] theorem State.setPort_pending (p : Port) : (s.setPort p).pending = s.pending := rfl

/-! ### `State.setPeer` -/

@[simp] theorem State.setPeer_now (e : PeerEntry) : (s.setPeer e).now = s.now := rfl
@[simp] theorem State.setPeer_pins (e : PeerEntry) : (s.setPeer e).pins = s.pins := rfl
@[simp] theorem State.setPeer_mem (e : PeerEntry) : (s.setPeer e).mem = s.mem := rfl
@[simp] theorem State.setPeer_meas (e : PeerEntry) : (s.setPeer e).meas = s.meas := rfl
@[simp] theorem State.setPeer_cond (e : PeerEntry) : (s.setPeer e).cond = s.cond := rfl
@[simp] theorem State.setPeer_rot (e : PeerEntry) : (s.setPeer e).rot = s.rot := rfl
@[simp] theorem State.setPeer_link (e : PeerEntry) : (s.setPeer e).link = s.link := rfl
@[simp] theorem State.setPeer_seq (e : PeerEntry) : (s.setPeer e).seq = s.seq := rfl
@[simp] theorem State.setPeer_rip (e : PeerEntry) : (s.setPeer e).rip = s.rip := rfl
@[simp] theorem State.setPeer_drive (e : PeerEntry) : (s.setPeer e).drive = s.drive := rfl
@[simp] theorem State.setPeer_startup (e : PeerEntry) : (s.setPeer e).startup = s.startup := rfl
@[simp] theorem State.setPeer_port (e : PeerEntry) : (s.setPeer e).port = s.port := rfl
@[simp] theorem State.setPeer_delivered (e : PeerEntry) : (s.setPeer e).delivered = s.delivered := rfl
@[simp] theorem State.setPeer_freeCount (e : PeerEntry) : (s.setPeer e).freeCount = s.freeCount := rfl
@[simp] theorem State.setPeer_pending (e : PeerEntry) : (s.setPeer e).pending = s.pending := rfl

/-! ### `State.setAssembly` -/

@[simp] theorem State.setAssembly_now (a : Option (List Byte)) : (s.setAssembly a).now = s.now := rfl
@[simp] theorem State.setAssembly_pins (a : Option (List Byte)) : (s.setAssembly a).pins = s.pins := rfl
@[simp] theorem State.setAssembly_mem (a : Option (List Byte)) : (s.setAssembly a).mem = s.mem := rfl
@[simp] theorem State.setAssembly_meas (a : Option (List Byte)) : (s.setAssembly a).meas = s.meas := rfl
@[simp] theorem State.setAssembly_cond (a : Option (List Byte)) : (s.setAssembly a).cond = s.cond := rfl
@[simp] theorem State.setAssembly_rot (a : Option (List Byte)) : (s.setAssembly a).rot = s.rot := rfl
@[simp] theorem State.setAssembly_peers (a : Option (List Byte)) : (s.setAssembly a).peers = s.peers := rfl
@[simp] theorem State.setAssembly_seq (a : Option (List Byte)) : (s.setAssembly a).seq = s.seq := rfl
@[simp] theorem State.setAssembly_rip (a : Option (List Byte)) : (s.setAssembly a).rip = s.rip := rfl
@[simp] theorem State.setAssembly_drive (a : Option (List Byte)) : (s.setAssembly a).drive = s.drive := rfl
@[simp] theorem State.setAssembly_startup (a : Option (List Byte)) : (s.setAssembly a).startup = s.startup := rfl
@[simp] theorem State.setAssembly_port (a : Option (List Byte)) : (s.setAssembly a).port = s.port := rfl
@[simp] theorem State.setAssembly_delivered (a : Option (List Byte)) : (s.setAssembly a).delivered = s.delivered := rfl
@[simp] theorem State.setAssembly_freeCount (a : Option (List Byte)) : (s.setAssembly a).freeCount = s.freeCount := rfl
@[simp] theorem State.setAssembly_pending (a : Option (List Byte)) : (s.setAssembly a).pending = s.pending := rfl

/-! ### `State.setMemWrite` -/

@[simp] theorem State.setMemWrite_now (w : MemWrite) : (s.setMemWrite w).now = s.now := rfl
@[simp] theorem State.setMemWrite_pins (w : MemWrite) : (s.setMemWrite w).pins = s.pins := rfl
@[simp] theorem State.setMemWrite_mem (w : MemWrite) : (s.setMemWrite w).mem = s.mem := rfl
@[simp] theorem State.setMemWrite_meas (w : MemWrite) : (s.setMemWrite w).meas = s.meas := rfl
@[simp] theorem State.setMemWrite_cond (w : MemWrite) : (s.setMemWrite w).cond = s.cond := rfl
@[simp] theorem State.setMemWrite_rot (w : MemWrite) : (s.setMemWrite w).rot = s.rot := rfl
@[simp] theorem State.setMemWrite_link (w : MemWrite) : (s.setMemWrite w).link = s.link := rfl
@[simp] theorem State.setMemWrite_peers (w : MemWrite) : (s.setMemWrite w).peers = s.peers := rfl
@[simp] theorem State.setMemWrite_seq (w : MemWrite) : (s.setMemWrite w).seq = s.seq := rfl
@[simp] theorem State.setMemWrite_rip (w : MemWrite) : (s.setMemWrite w).rip = s.rip := rfl
@[simp] theorem State.setMemWrite_drive (w : MemWrite) : (s.setMemWrite w).drive = s.drive := rfl
@[simp] theorem State.setMemWrite_port (w : MemWrite) : (s.setMemWrite w).port = s.port := rfl
@[simp] theorem State.setMemWrite_delivered (w : MemWrite) : (s.setMemWrite w).delivered = s.delivered := rfl
@[simp] theorem State.setMemWrite_freeCount (w : MemWrite) : (s.setMemWrite w).freeCount = s.freeCount := rfl
@[simp] theorem State.setMemWrite_pending (w : MemWrite) : (s.setMemWrite w).pending = s.pending := rfl

/-! ### `State.requestStatus` -/

@[simp] theorem State.requestStatus_now : s.requestStatus.now = s.now := rfl
@[simp] theorem State.requestStatus_pins : s.requestStatus.pins = s.pins := rfl
@[simp] theorem State.requestStatus_mem : s.requestStatus.mem = s.mem := rfl
@[simp] theorem State.requestStatus_meas : s.requestStatus.meas = s.meas := rfl
@[simp] theorem State.requestStatus_cond : s.requestStatus.cond = s.cond := rfl
@[simp] theorem State.requestStatus_rot : s.requestStatus.rot = s.rot := rfl
@[simp] theorem State.requestStatus_peers : s.requestStatus.peers = s.peers := rfl
@[simp] theorem State.requestStatus_seq : s.requestStatus.seq = s.seq := rfl
@[simp] theorem State.requestStatus_rip : s.requestStatus.rip = s.rip := rfl
@[simp] theorem State.requestStatus_drive : s.requestStatus.drive = s.drive := rfl
@[simp] theorem State.requestStatus_startup : s.requestStatus.startup = s.startup := rfl
@[simp] theorem State.requestStatus_port : s.requestStatus.port = s.port := rfl
@[simp] theorem State.requestStatus_delivered : s.requestStatus.delivered = s.delivered := rfl
@[simp] theorem State.requestStatus_freeCount : s.requestStatus.freeCount = s.freeCount := rfl
@[simp] theorem State.requestStatus_pending : s.requestStatus.pending = s.pending := rfl

/-! ### `State.refreshOversub` -/

@[simp] theorem State.refreshOversub_now : s.refreshOversub.now = s.now := rfl
@[simp] theorem State.refreshOversub_pins : s.refreshOversub.pins = s.pins := rfl
@[simp] theorem State.refreshOversub_mem : s.refreshOversub.mem = s.mem := rfl
@[simp] theorem State.refreshOversub_meas : s.refreshOversub.meas = s.meas := rfl
@[simp] theorem State.refreshOversub_cond : s.refreshOversub.cond = s.cond := rfl
@[simp] theorem State.refreshOversub_link : s.refreshOversub.link = s.link := rfl
@[simp] theorem State.refreshOversub_peers : s.refreshOversub.peers = s.peers := rfl
@[simp] theorem State.refreshOversub_seq : s.refreshOversub.seq = s.seq := rfl
@[simp] theorem State.refreshOversub_rip : s.refreshOversub.rip = s.rip := rfl
@[simp] theorem State.refreshOversub_drive : s.refreshOversub.drive = s.drive := rfl
@[simp] theorem State.refreshOversub_startup : s.refreshOversub.startup = s.startup := rfl
@[simp] theorem State.refreshOversub_port : s.refreshOversub.port = s.port := rfl
@[simp] theorem State.refreshOversub_delivered : s.refreshOversub.delivered = s.delivered := rfl
@[simp] theorem State.refreshOversub_freeCount : s.refreshOversub.freeCount = s.freeCount := rfl
@[simp] theorem State.refreshOversub_pending : s.refreshOversub.pending = s.pending := rfl

/-! ### `State.startSettling` -/

@[simp] theorem State.startSettling_now : s.startSettling.now = s.now := rfl
@[simp] theorem State.startSettling_pins : s.startSettling.pins = s.pins := rfl
@[simp] theorem State.startSettling_mem : s.startSettling.mem = s.mem := rfl
@[simp] theorem State.startSettling_cond : s.startSettling.cond = s.cond := rfl
@[simp] theorem State.startSettling_rot : s.startSettling.rot = s.rot := rfl
@[simp] theorem State.startSettling_link : s.startSettling.link = s.link := rfl
@[simp] theorem State.startSettling_peers : s.startSettling.peers = s.peers := rfl
@[simp] theorem State.startSettling_seq : s.startSettling.seq = s.seq := rfl
@[simp] theorem State.startSettling_rip : s.startSettling.rip = s.rip := rfl
@[simp] theorem State.startSettling_drive : s.startSettling.drive = s.drive := rfl
@[simp] theorem State.startSettling_startup : s.startSettling.startup = s.startup := rfl
@[simp] theorem State.startSettling_port : s.startSettling.port = s.port := rfl
@[simp] theorem State.startSettling_delivered : s.startSettling.delivered = s.delivered := rfl
@[simp] theorem State.startSettling_freeCount : s.startSettling.freeCount = s.freeCount := rfl
@[simp] theorem State.startSettling_pending : s.startSettling.pending = s.pending := rfl

/-! ### `State.updateUrgency` -/

@[simp] theorem State.updateUrgency_now : s.updateUrgency.now = s.now := rfl
@[simp] theorem State.updateUrgency_pins : s.updateUrgency.pins = s.pins := rfl
@[simp] theorem State.updateUrgency_mem : s.updateUrgency.mem = s.mem := rfl
@[simp] theorem State.updateUrgency_meas : s.updateUrgency.meas = s.meas := rfl
@[simp] theorem State.updateUrgency_rot : s.updateUrgency.rot = s.rot := rfl
@[simp] theorem State.updateUrgency_link : s.updateUrgency.link = s.link := rfl
@[simp] theorem State.updateUrgency_peers : s.updateUrgency.peers = s.peers := rfl
@[simp] theorem State.updateUrgency_seq : s.updateUrgency.seq = s.seq := rfl
@[simp] theorem State.updateUrgency_rip : s.updateUrgency.rip = s.rip := rfl
@[simp] theorem State.updateUrgency_drive : s.updateUrgency.drive = s.drive := rfl
@[simp] theorem State.updateUrgency_startup : s.updateUrgency.startup = s.startup := rfl
@[simp] theorem State.updateUrgency_port : s.updateUrgency.port = s.port := rfl
@[simp] theorem State.updateUrgency_delivered : s.updateUrgency.delivered = s.delivered := rfl
@[simp] theorem State.updateUrgency_freeCount : s.updateUrgency.freeCount = s.freeCount := rfl
@[simp] theorem State.updateUrgency_pending : s.updateUrgency.pending = s.pending := rfl

/-! ### `State.clearClaim` -/

@[simp] theorem State.clearClaim_now : s.clearClaim.now = s.now := rfl
@[simp] theorem State.clearClaim_pins : s.clearClaim.pins = s.pins := rfl
@[simp] theorem State.clearClaim_mem : s.clearClaim.mem = s.mem := rfl
@[simp] theorem State.clearClaim_meas : s.clearClaim.meas = s.meas := rfl
@[simp] theorem State.clearClaim_cond : s.clearClaim.cond = s.cond := rfl
@[simp] theorem State.clearClaim_link : s.clearClaim.link = s.link := rfl
@[simp] theorem State.clearClaim_peers : s.clearClaim.peers = s.peers := rfl
@[simp] theorem State.clearClaim_seq : s.clearClaim.seq = s.seq := rfl
@[simp] theorem State.clearClaim_rip : s.clearClaim.rip = s.rip := rfl
@[simp] theorem State.clearClaim_drive : s.clearClaim.drive = s.drive := rfl
@[simp] theorem State.clearClaim_startup : s.clearClaim.startup = s.startup := rfl
@[simp] theorem State.clearClaim_port : s.clearClaim.port = s.port := rfl
@[simp] theorem State.clearClaim_delivered : s.clearClaim.delivered = s.delivered := rfl
@[simp] theorem State.clearClaim_freeCount : s.clearClaim.freeCount = s.freeCount := rfl
@[simp] theorem State.clearClaim_pending : s.clearClaim.pending = s.pending := rfl

/-! ### `State.beginRun` -/

@[simp] theorem State.beginRun_now : s.beginRun.now = s.now := rfl
@[simp] theorem State.beginRun_pins : s.beginRun.pins = s.pins := rfl
@[simp] theorem State.beginRun_mem : s.beginRun.mem = s.mem := rfl
@[simp] theorem State.beginRun_meas : s.beginRun.meas = s.meas := rfl
@[simp] theorem State.beginRun_rot : s.beginRun.rot = s.rot := rfl
@[simp] theorem State.beginRun_link : s.beginRun.link = s.link := rfl
@[simp] theorem State.beginRun_peers : s.beginRun.peers = s.peers := rfl
@[simp] theorem State.beginRun_seq : s.beginRun.seq = s.seq := rfl
@[simp] theorem State.beginRun_rip : s.beginRun.rip = s.rip := rfl
@[simp] theorem State.beginRun_drive : s.beginRun.drive = s.drive := rfl
@[simp] theorem State.beginRun_startup : s.beginRun.startup = s.startup := rfl
@[simp] theorem State.beginRun_port : s.beginRun.port = s.port := rfl
@[simp] theorem State.beginRun_delivered : s.beginRun.delivered = s.delivered := rfl
@[simp] theorem State.beginRun_freeCount : s.beginRun.freeCount = s.freeCount := rfl
@[simp] theorem State.beginRun_pending : s.beginRun.pending = s.pending := rfl

/-! ### `State.resumeRun` -/

@[simp] theorem State.resumeRun_now : s.resumeRun.now = s.now := rfl
@[simp] theorem State.resumeRun_pins : s.resumeRun.pins = s.pins := rfl
@[simp] theorem State.resumeRun_mem : s.resumeRun.mem = s.mem := rfl
@[simp] theorem State.resumeRun_meas : s.resumeRun.meas = s.meas := rfl
@[simp] theorem State.resumeRun_rot : s.resumeRun.rot = s.rot := rfl
@[simp] theorem State.resumeRun_link : s.resumeRun.link = s.link := rfl
@[simp] theorem State.resumeRun_peers : s.resumeRun.peers = s.peers := rfl
@[simp] theorem State.resumeRun_seq : s.resumeRun.seq = s.seq := rfl
@[simp] theorem State.resumeRun_rip : s.resumeRun.rip = s.rip := rfl
@[simp] theorem State.resumeRun_drive : s.resumeRun.drive = s.drive := rfl
@[simp] theorem State.resumeRun_startup : s.resumeRun.startup = s.startup := rfl
@[simp] theorem State.resumeRun_port : s.resumeRun.port = s.port := rfl
@[simp] theorem State.resumeRun_delivered : s.resumeRun.delivered = s.delivered := rfl
@[simp] theorem State.resumeRun_freeCount : s.resumeRun.freeCount = s.freeCount := rfl
@[simp] theorem State.resumeRun_pending : s.resumeRun.pending = s.pending := rfl

/-! ### Reading what an update wrote -/

@[simp] theorem State.setPort_port (p : Port) : (s.setPort p).port = p := rfl
@[simp] theorem State.setRip_rip (r : Ripening) : (s.setRip r).rip = r := rfl
@[simp] theorem State.setBlower_blower (b : BlowerRec) : (s.setBlower b).drive.blower = b := rfl
@[simp] theorem State.setBlower_valve (b : BlowerRec) (v : Valve) : (s.setBlower b).valve v = s.valve v := by
  cases v <;> rfl
@[simp] theorem State.setBlower_valveFault (b : BlowerRec) : (s.setBlower b).drive.valveFault = s.drive.valveFault :=
  rfl
@[simp] theorem State.setAirEndStop_airEndStop (x : Option Nat) : (s.setAirEndStop x).drive.airEndStop = x := rfl
@[simp] theorem State.setAirEndStop_blower (x : Option Nat) : (s.setAirEndStop x).drive.blower = s.drive.blower := rfl
@[simp] theorem State.setAirEndStop_valve (x : Option Nat) (v : Valve) : (s.setAirEndStop x).valve v = s.valve v := rfl
@[simp] theorem State.setMemWrite_memWrite (w : MemWrite) : (s.setMemWrite w).startup.memWrite = w := rfl
@[simp] theorem State.setAssembly_assembly (a : Option (List Byte)) : (s.setAssembly a).link.assembly = a := rfl

/-- Reading one valve after setting another or the same. -/
@[simp] theorem Drive.get_put (d : Drive) (v w : Valve) (r : ValveRec) :
    (d.put v r).get w = if w = v then r else d.get w := by
  cases v <;> cases w <;> rfl

/-- The interlock of the blower and the valve-fault flag leave the valve records alone. -/
@[simp] theorem Drive.get_interlocked (d : Drive) (v : Valve) : d.interlocked.get v = d.get v := by
  cases v <;> rfl

/-- Reading one valve after setting another or the same. -/
@[simp] theorem State.valve_setValve (v w : Valve) (r : ValveRec) :
    (s.setValve v r).valve w = if w = v then r else s.valve w := by
  simp [State.valve, State.setValve]

/-- Reading one valve's switches after setting another's or the same. -/
@[simp] theorem Pins.get_put (p : Pins) (v w : Valve) (x : Switches) :
    (p.put v x).get w = if w = v then x else p.get w := by
  cases v <;> cases w <;> rfl

/-- Reading one valve's switches after setting another's or the same. -/
@[simp] theorem State.switches_setSwitches (v w : Valve) (x : Switches) :
    (s.setSwitches v x).switches w = if w = v then x else s.switches w := by
  simp [State.switches, State.setSwitches]

@[simp] theorem State.valve_setSwitches (v w : Valve) (x : Switches) : (s.setSwitches v x).valve w = s.valve w := rfl
@[simp] theorem State.switches_setValve (v w : Valve) (r : ValveRec) : (s.setValve v r).switches w = s.switches w :=
  rfl

/-- Reading one channel after setting another or the same. -/
@[simp] theorem Measurement.get_put (m : Measurement) (a b : Channel) (r : ChannelRec) :
    (m.put a r).get b = if b = a then r else m.get b := by
  cases a <;> cases b <;> rfl

@[simp] theorem Measurement.get_withFlag (m : Measurement) (ch : Channel) : m.withFlag.get ch = m.get ch := by
  cases ch <;> rfl

/-- Reading one channel after setting another or the same. -/
@[simp] theorem State.get_setChannel (a b : Channel) (r : ChannelRec) :
    (s.setChannel a r).meas.get b = if b = a then r else s.meas.get b := by
  simp [State.setChannel]

end Sys2Proof.Machine
end

