-- ==== Sys2Proof/Laws/Quiet.lean ====
section
/-! SUPPORT. What the shared operations leave alone. `Still s t` says that t has s's memory, station time, peer table,
port, command queue, configuration and station number; `Calm` adds the service state and the delivered triggers;
`Quiet` says which triggers a change of service state leaves; `Drops` says of several changes that none was added. One
lemma per operation; a claim about any of these fields cites it instead of unfolding the operation. -/

namespace Sys2Proof.Machine

variable {s t u : State}

/-- `t` stands as still as `s`, with the service state and the delivered triggers of `s`. -/
structure Calm (s t : State) : Prop extends Still s t where
  service : t.rot.service = s.rot.service
  delivered : t.delivered = s.delivered

theorem Still.refl (s : State) : Still s s := by constructor <;> rfl

theorem Still.trans (h : Still s t) (k : Still t u) : Still s u := by
  constructor
  · exact k.mem.trans h.mem
  · exact k.now.trans h.now
  · exact k.port.trans h.port
  · exact k.peers.trans h.peers
  · exact k.freeCount.trans h.freeCount
  · exact k.pending.trans h.pending
  · exact k.working.trans h.working
  · exact k.number.trans h.number
  · exact k.locked.trans h.locked
  · exact k.memWrite.trans h.memWrite
  · exact k.faultIndex.trans h.faultIndex
  · exact k.ch0.trans h.ch0
  · exact k.ch1.trans h.ch1
  · exact k.ch2.trans h.ch2
  · exact k.ch3.trans h.ch3
  · exact k.ch4.trans h.ch4
  · exact k.channelFault.trans h.channelFault
  · exact k.straps.trans h.straps
  · exact k.resetLine.trans h.resetLine
  · exact k.pressure.trans h.pressure

/-- Still steps keep the configuration in force. -/
theorem Still.cfg (h : Still s t) : t.cfg = s.cfg := by simp [State.cfg, h.working]

/-- Still steps keep the own station number. -/
theorem Still.ownNumber (h : Still s t) : t.ownNumber = s.ownNumber := by simp [State.ownNumber, h.number]

theorem Calm.refl (s : State) : Calm s s := ⟨.refl s, rfl, rfl⟩

theorem Calm.trans (h : Calm s t) (k : Calm t u) : Calm s u :=
  ⟨h.toStill.trans k.toStill, k.service.trans h.service, k.delivered.trans h.delivered⟩

/-- Changing the records of the still blocks' owners, the service state apart, is calm. -/
theorem Calm.of (s : State) (settling decision : Option Nat) (cond link seq rip drive)
    (held manual recovery holdAsserted deferredTakeOut deferredWashNow : Bool) (serial : Nat) (claimed claimFlags)
    (settleDeadline outstanding : Option Nat) (lastRefusal) (predictedRate : Option Nat) (oversub ripenFail : Bool)
    (stage : Stage) (selection : Option Selection) (listenElapsed : Nat) :
    Calm s { s with
      meas := { s.meas with settling := settling, decision := decision }
      cond := cond, link := link, seq := seq, rip := rip, drive := drive
      rot := ⟨s.rot.service, held, manual, recovery, holdAsserted, deferredTakeOut, deferredWashNow, serial, claimed,
        claimFlags, settleDeadline, outstanding, lastRefusal, predictedRate, oversub, ripenFail⟩
      startup := { s.startup with stage := stage, selection := selection, listenElapsed := listenElapsed } } := by
  refine ⟨?_, rfl, rfl⟩
  constructor <;> rfl

/-- A calm step keeps the delivered triggers that the station's own state leaves. -/
theorem Calm.quiet (h : Calm s t) : Quiet s t :=
  ⟨h.toStill, fun hs => by rw [h.delivered, h.service, List.filter_eq_self.2 hs]⟩

theorem Quiet.refl (s : State) : Quiet s s := (Calm.refl s).quiet

/-- After a quiet step every delivered trigger that waits names the service state again. -/
theorem Quiet.named (h : Quiet s t) (hs : s.deliveredNamed) : t.deliveredNamed := by
  intro d hd
  rw [h.delivered hs] at hd
  exact (List.mem_filter.1 hd).2

/-- Two quiet steps are quiet where the first keeps the service state, or where what names the last state names the
middle one too: no trigger is dropped that a single change would keep. -/
theorem Quiet.trans (h : Quiet s t) (k : Quiet t u)
    (c : t.rot.service = s.rot.service ∨ ∀ x : Trigger, x.names u.rot.service = true → x.names t.rot.service = true) :
    Quiet s u := by
  refine ⟨h.toStill.trans k.toStill, fun hs => ?_⟩
  rw [k.delivered (h.named hs), h.delivered hs, List.filter_filter]
  apply List.filter_congr
  intro d hd
  rcases c with c | c
  · rw [c, hs d hd, Bool.and_true]
  · cases hu : d.trigger.names u.rot.service with
    | false => rfl
    | true => rw [c _ hu]; rfl

theorem Calm.thenQuiet (h : Calm s t) (k : Quiet t u) : Quiet s u := h.quiet.trans k (.inl h.service)

theorem Quiet.thenCalm (h : Quiet s t) (k : Calm t u) : Quiet s u :=
  h.trans k.quiet (.inr fun _ hx => k.service ▸ hx)

/-- No trigger names WASHING, RIPENING, STANDBY, ISOLATED or START. -/
theorem Trigger.names_delivering {x : Trigger} {y : ServiceState} (h : x.names y = true) : y.delivering = true := by
  cases x <;> cases y <;> simp_all [Trigger.names, ServiceState.delivering]

/-- `t` stands as still as `s`; of the delivered triggers of `s` some still wait, which name the service state of `t`. -/
structure Drops (s t : State) : Prop extends Still s t where
  fewer : s.deliveredNamed → t.delivered.Sublist s.delivered
  named : s.deliveredNamed → t.deliveredNamed

theorem Quiet.drops (h : Quiet s t) : Drops s t :=
  ⟨h.toStill, fun hs => by rw [h.delivered hs]; exact List.filter_sublist, h.named⟩

theorem Drops.trans (h : Drops s t) (k : Drops t u) : Drops s u :=
  ⟨h.toStill.trans k.toStill, fun hs => (k.fewer (h.named hs)).trans (h.fewer hs), fun hs => k.named (h.named hs)⟩

/-- A fold of steps that drop triggers drops triggers. -/
theorem Drops.foldl {α : Type} (f : State → α → State) (hf : ∀ s a, Drops s (f s a)) (l : List α) (s : State) :
    Drops s (l.foldl f s) := by
  induction l generalizing s with
  | nil => exact (Quiet.refl s).drops
  | cons a l ih => exact (hf s a).trans (ih (f s a))

/-- A fold of calm steps is calm. -/
theorem Calm.foldl {α : Type} (f : State → α → State) (hf : ∀ s a, Calm s (f s a)) (l : List α) (s : State) :
    Calm s (l.foldl f s) := by
  induction l generalizing s with
  | nil => exact .refl s
  | cons a l ih => exact (hf s a).trans (ih (f s a))

/-! ### Plain updates -/

variable (s : State)

theorem State.setValve_calm (v : Valve) (r : ValveRec) : Calm s (s.setValve v r) := .of s ..
theorem State.setBlower_calm (b : BlowerRec) : Calm s (s.setBlower b) := .of s ..
theorem State.setAirEndStop_calm (x : Option Nat) : Calm s (s.setAirEndStop x) := .of s ..
theorem State.setBlowerFollowing_calm (b : BlowerRec) : Calm s (s.setBlowerFollowing b) := .of s ..
theorem State.setSwitches_calm (v : Valve) (w : Switches) : Calm s (s.setSwitches v w) := by
  cases v <;> exact ⟨by constructor <;> rfl, rfl, rfl⟩
theorem State.setSeq_calm (q : Sequencer) : Calm s (s.setSeq q) := .of s ..
theorem State.setRip_calm (r : Ripening) : Calm s (s.setRip r) := .of s ..
theorem State.setAssembly_calm (a : Option (List Byte)) : Calm s (s.setAssembly a) := .of s ..
theorem State.requestStatus_calm : Calm s s.requestStatus := .of s ..
theorem State.refreshOversub_calm : Calm s s.refreshOversub := .of s ..
theorem State.startSettling_calm : Calm s s.startSettling := .of s ..
theorem State.updateUrgency_calm : Calm s s.updateUrgency := .of s ..
theorem State.clearClaim_calm : Calm s s.clearClaim := .of s ..
theorem State.beginRun_calm : Calm s s.beginRun := .of s ..
theorem State.resumeRun_calm : Calm s s.resumeRun := .of s ..
theorem State.computeComponents_calm : Calm s s.computeComponents := .of s ..
theorem State.zeroComponents_calm : Calm s s.zeroComponents := .of s ..

/-! ### Measurement and condition -/

theorem State.setDecision_calm (d : Option Nat) : Calm s (s.setDecision d) := by
  unfold State.setDecision; simp only; split <;> exact .of s ..

theorem State.followDecision_calm : Calm s s.followDecision := by
  unfold State.followDecision; split
  · exact s.setDecision_calm _
  · exact .refl s

theorem State.urgencyOnEntry_calm (old : ServiceState) : Calm s (s.urgencyOnEntry old) := by
  unfold State.urgencyOnEntry; repeat' split
  all_goals exact .of s ..

theorem State.settlingExpires_calm : Calm s s.settlingExpires :=
  (Calm.of s ..).trans (State.followDecision_calm _)

/-! ### Link, admission, claims -/

theorem State.claimDiscarded_calm (n : Nat) : Calm s (s.claimDiscarded n) := by
  unfold State.claimDiscarded; repeat' split
  all_goals first | exact .refl s | exact .of s ..

theorem State.discardNotice_calm (f : Frame) : Calm s (s.discardNotice f) := by
  cases f <;> first | exact .refl s | exact s.claimDiscarded_calm _

theorem State.offer_calm (f : Frame) : Calm s (s.offer f) := by
  unfold State.offer; split
  · exact .of s ..
  · exact s.discardNotice_calm f

theorem State.withdrawClaim_calm : Calm s s.withdrawClaim := by
  unfold State.withdrawClaim; split
  · exact .of s ..
  · exact .refl s

/-- A change of service state drops the delivered triggers whose states it leaves (R34). -/
theorem State.enterState_quiet (new : ServiceState) : Quiet s (s.enterState new) := by
  have k := ((State.refreshOversub_calm { s with
      rot := { s.rot with service := new, manual := s.rot.manual && !new.outOfRun }
      delivered := s.stillDelivered new }).trans (State.followDecision_calm _)).trans
    (State.urgencyOnEntry_calm _ s.rot.service)
  refine Quiet.thenCalm ⟨?_, fun _ => rfl⟩ k
  constructor <;> rfl

theorem State.enterState_service (new : ServiceState) : (s.enterState new).rot.service = new := by
  have k := ((State.refreshOversub_calm { s with
      rot := { s.rot with service := new, manual := s.rot.manual && !new.outOfRun }
      delivered := s.stillDelivered new }).trans (State.followDecision_calm _)).trans
    (State.urgencyOnEntry_calm _ s.rot.service)
  exact k.service

theorem State.changeState_service (new : ServiceState) : (s.changeState new).rot.service = new := s.enterState_service new

theorem State.changeState_quiet (new : ServiceState) : Quiet s (s.changeState new) :=
  (s.enterState_quiet new).thenCalm (State.requestStatus_calm _)

theorem State.makeClaim_calm : Calm s s.makeClaim := (Calm.of s ..).trans (State.offer_calm _ _)

theorem State.evaluate_calm : Calm s s.evaluate := by
  unfold State.evaluate; simp only; split
  · exact (Calm.of s ..).trans (State.makeClaim_calm _)
  · exact .of s ..
  · exact .of s ..
  · exact (Calm.of s ..).trans (State.withdrawClaim_calm _)

theorem State.yieldFor_quiet (why : Reason) : Quiet s (s.yieldFor why) :=
  (s.offer_calm _).thenQuiet ((Calm.of _ ..).thenQuiet ((State.clearClaim_calm _).thenQuiet (State.changeState_quiet _ _)))

theorem State.testYield_quiet : Quiet s s.testYield := by
  unfold State.testYield; split
  · exact s.yieldFor_quiet _
  · exact .refl s

/-- A test of the yield conditions keeps the service state or takes QUEUED. -/
theorem State.testYield_service : s.testYield.rot.service = s.rot.service ∨ s.testYield.rot.service = .queued := by
  unfold State.testYield; split
  · exact .inr (State.changeState_service _ _)
  · exact .inl rfl

theorem State.claimSent_quiet (c : ClaimContent) : Quiet s (s.claimSent c) := by
  unfold State.claimSent; split
  · simp only; split
    · exact (Calm.of s ..).thenQuiet ((State.changeState_quiet _ _).trans (State.testYield_quiet _)
        (.inr fun x hx => by
          rw [State.changeState_service]
          have hd := Trigger.names_delivering hx
          rcases State.testYield_service _ with h | h <;> rw [h] at hx
          · rwa [State.changeState_service] at hx
          · cases x <;> simp_all [Trigger.names]))
    · exact ((Calm.of s ..).trans (State.offer_calm _ _)).quiet
  · exact .refl s

theorem State.sentNotice_quiet (f : Frame) : Quiet s (s.sentNotice f) := by
  cases f <;> first | exact .refl s | exact s.claimSent_quiet _

theorem State.closeOff_calm : Calm s s.closeOff := by
  unfold State.closeOff; repeat' split
  all_goals first
    | exact .refl s
    | exact (s.offer_calm _).trans (State.clearClaim_calm _)
    | exact s.withdrawClaim_calm.trans (State.clearClaim_calm _)

theorem State.rotationTick_quiet : Quiet s s.rotationTick := by
  unfold State.rotationTick; split
  all_goals first | exact .refl s | exact (s.evaluate_calm).quiet | exact s.testYield_quiet

theorem State.rotationLapse_calm : Calm s s.rotationLapse := by
  unfold State.rotationLapse; split
  · exact s.evaluate_calm
  · exact .refl s

theorem State.rotationFrame_quiet (k : Option FrameKind) : Quiet s (s.rotationFrame k) := by
  unfold State.rotationFrame; repeat' split
  all_goals first | exact .refl s | exact (s.evaluate_calm).quiet | exact s.testYield_quiet

theorem State.holdEvent_quiet (b : Bool) : Quiet s (s.holdEvent b) := by
  unfold State.holdEvent; split
  · exact .refl s
  · exact s.rotationTick_quiet

theorem State.duplicateAddress_quiet : Quiet s s.duplicateAddress := by
  unfold State.duplicateAddress; split
  · exact .refl s
  · simp only; split
    · exact (Calm.of s ..).thenQuiet
        ((Calm.foldl _ (fun t f => t.discardNotice_calm f) _ _).thenQuiet (State.yieldFor_quiet _ _))
    · exact ((Calm.of s ..).trans (Calm.foldl _ (fun t f => t.discardNotice_calm f) _ _)).quiet

theorem State.enterWashing_quiet : Quiet s s.enterWashing :=
  s.clearClaim_calm.thenQuiet ((Calm.of _ ..).thenQuiet (State.enterState_quiet _ _))

theorem State.formDue_calm (b : Bool) : Calm s (s.formDue b) := by
  unfold State.formDue; split
  · exact (Calm.of s ..).trans (State.requestStatus_calm _)
  · exact .refl s

theorem State.frameSent_quiet (f : Frame) : Quiet s (s.frameSent f) :=
  (Calm.of s ..).thenQuiet ((State.formDue_calm _ _).thenQuiet (State.sentNotice_quiet _ _))

theorem State.frameDiscarded_calm (f : Frame) : Calm s (s.frameDiscarded f) :=
  (Calm.of s ..).trans ((State.formDue_calm _ _).trans (State.discardNotice_calm _ _))

/-! ### Drive -/

theorem State.requestMove_calm (who : Requester) (e : ValveEnd) (v : Valve) : Calm s (s.requestMove who e v) :=
  s.setValve_calm _ _

theorem State.requestMoves_calm (who : Requester) (e : ValveEnd) (vs : List Valve) :
    Calm s (s.requestMoves who e vs) :=
  Calm.foldl _ (fun t v => t.requestMove_calm who e v) vs s

theorem State.blowerPulsed_calm : Calm s s.blowerPulsed := by
  unfold State.blowerPulsed; split <;> exact .of s ..

theorem State.blowerContinuous_calm : Calm s s.blowerContinuous := .of s ..

theorem State.blowerEndPulsed_calm : Calm s s.blowerEndPulsed := by
  unfold State.blowerEndPulsed; split <;> first | exact .refl s | exact .of s ..

theorem State.blowerStop_calm : Calm s s.blowerStop := .of s ..

theorem State.blowerClear_calm : Calm s s.blowerClear := by
  unfold State.blowerClear; split <;> first | exact .refl s | exact .of s ..

theorem State.blowerResume_calm : Calm s s.blowerResume := by
  unfold State.blowerResume; split <;> first | exact .refl s | exact .of s ..

theorem State.openingCompleted_calm (v : Valve) : Calm s (s.openingCompleted v) := by
  cases v <;> first | exact .refl s | exact s.startSettling_calm | exact s.blowerResume_calm

theorem State.completeMove_calm (v : Valve) : Calm s (s.completeMove v) := by
  unfold State.completeMove; split
  · simp only; split
    · exact (s.setValve_calm _ _).trans (State.openingCompleted_calm _ _)
    · exact s.setValve_calm _ _
  · exact .refl s

theorem State.faultValve_calm (v : Valve) (k : FaultKind) : Calm s (s.faultValve v k) := s.setValve_calm _ _

theorem State.redriveValve_calm (v : Valve) (e : ValveEnd) : Calm s (s.redriveValve v e) := s.setValve_calm _ _

theorem State.clearFault_calm (v : Valve) : Calm s (s.clearFault v) := by
  unfold State.clearFault; simp only; split
  · exact s.setValve_calm _ _
  · exact .refl s

theorem State.clearFaults_calm : Calm s s.clearFaults := Calm.foldl _ (fun t v => t.clearFault_calm v) _ s

theorem State.pulseSecond_calm : Calm s s.pulseSecond := by
  unfold State.pulseSecond; split
  · exact .refl s
  · exact .of s ..

/-! ### Isolation and ripening -/

theorem State.isolationRequest_calm : Calm s s.isolationRequest := s.requestMoves_calm _ _ _

theorem State.abandonRipening_calm : Calm s s.abandonRipening := by
  unfold State.abandonRipening; split <;> first | exact .refl s | exact .of s ..

theorem State.isolateTo_quiet (new : ServiceState) : Quiet s (s.isolateTo new) :=
  (s.closeOff_calm.trans (State.abandonRipening_calm _)).thenQuiet
    ((State.isolationRequest_calm _).thenQuiet (State.changeState_quiet _ _))

theorem State.faultOutsideWash_quiet (v : Valve) : Quiet s (s.faultOutsideWash v) := by
  unfold State.faultOutsideWash; split
  · exact s.isolateTo_quiet _
  · exact .refl s

theorem State.ripeningOpened_calm : Calm s s.ripeningOpened := by
  unfold State.ripeningOpened; split <;> first | exact .refl s | exact .of s ..

theorem State.ripeningOpening_calm : Calm s s.ripeningOpening :=
  (s.setRip_calm _).trans ((State.requestMoves_calm _ _ _ _).trans (State.ripeningOpened_calm _))

theorem State.ripeningClosed_calm : Calm s s.ripeningClosed := by
  unfold State.ripeningClosed; split
  · exact .refl s
  · exact s.ripeningOpening_calm

theorem State.startRipening_calm : Calm s s.startRipening :=
  (s.setRip_calm _).trans (State.requestMoves_calm _ _ _ _)

theorem State.beginRipening_calm : Calm s s.beginRipening :=
  s.startRipening_calm.trans (State.ripeningClosed_calm _)

theorem State.takeRipened_quiet : Quiet s s.takeRipened := by
  unfold State.takeRipened; split
  · exact (Calm.of s ..).thenQuiet (State.changeState_quiet _ _)
  · exact s.changeState_quiet _

theorem State.ripeningSucceeded_quiet : Quiet s s.ripeningSucceeded :=
  ((s.requestMove_calm _ _ _).trans (State.beginRun_calm _)).thenQuiet
    ((State.setRip_calm _ _).thenQuiet (State.takeRipened_quiet _))

theorem State.ripeningEnding_quiet : Quiet s s.ripeningEnding := by
  unfold State.ripeningEnding; split
  · exact s.ripeningSucceeded_quiet
  · exact .refl s

theorem State.ripeningSuccess_quiet : Quiet s s.ripeningSuccess :=
  (s.setRip_calm _).thenQuiet ((State.requestMove_calm _ _ _ _).thenQuiet (State.ripeningEnding_quiet _))

theorem State.ripeningFailed_quiet : Quiet s s.ripeningFailed := (Calm.of s ..).thenQuiet (State.isolateTo_quiet _ _)

theorem State.ripeningSteps_quiet : Quiet s s.ripeningSteps := by
  have h : Calm s s.ripeningCount := s.setRip_calm _
  unfold State.ripeningSteps; simp only; repeat' split
  all_goals first
    | exact h.quiet
    | exact h.thenQuiet (State.ripeningSuccess_quiet _)
    | exact h.thenQuiet (State.ripeningFailed_quiet _)

theorem State.ripeningChannelLost_calm : Calm s s.ripeningChannelLost := by
  unfold State.ripeningChannelLost; split <;> first | exact .refl s | exact .of s ..

theorem State.ripeningProgress_quiet : Quiet s s.ripeningProgress := by
  unfold State.ripeningProgress; split
  all_goals first
    | exact .refl s
    | exact (s.ripeningClosed_calm).quiet
    | exact (s.ripeningOpened_calm).quiet
    | exact s.ripeningEnding_quiet

/-! ### The wash -/

theorem State.takeWashEnd_quiet (o : WashOutcome) : Quiet s (s.takeWashEnd o) := by
  unfold State.takeWashEnd; simp only; repeat' split
  · exact (Calm.of s ..).thenQuiet ((State.isolationRequest_calm _).thenQuiet (State.changeState_quiet _ _))
  · exact (Calm.of s ..).thenQuiet ((State.changeState_quiet _ _).thenCalm (State.beginRipening_calm _))
  all_goals exact (Calm.of s ..).thenQuiet (State.changeState_quiet _ _)

theorem State.endWash_quiet (o : WashOutcome) : Quiet s (s.endWash o) :=
  (s.offer_calm _).thenQuiet ((State.setSeq_calm _ _).thenQuiet (State.takeWashEnd_quiet _ _))

theorem State.abortProgress_quiet : Quiet s s.abortProgress := by
  unfold State.abortProgress; split
  · exact .refl s
  · exact s.endWash_quiet _

theorem State.causeFault_calm : Calm s s.causeFault := s.setSeq_calm _

theorem State.abortPath_quiet (c : AbortCause) : Quiet s (s.abortPath c) := by
  have h : ∀ q, Calm s (((s.setSeq q).blowerStop).requestMoves .sequencer .closedEnd allValves) := fun q =>
    (s.setSeq_calm q).trans ((State.blowerStop_calm _).trans (State.requestMoves_calm _ _ _ _))
  unfold State.abortPath; simp only
  refine Calm.thenQuiet ?_ (State.abortProgress_quiet _)
  split
  · exact (h _).trans (State.causeFault_calm _)
  · exact h _

theorem State.entryComplete_calm (a : Activity) : Calm s (s.entryComplete a) := by
  unfold State.entryComplete; simp only
  refine Calm.trans ?_ (State.setSeq_calm _ _)
  split
  all_goals first | exact .refl s | exact s.blowerPulsed_calm | exact s.blowerContinuous_calm

variable {done : State → State} (hd : ∀ s, Quiet s (done s))
include hd

theorem State.entryOpened_quiet (a : Activity) : Quiet s (s.entryOpened a done) := by
  unfold State.entryOpened
  generalize (if a = .airWater then [Valve.drn, .ww, .air] else phaseOpens s.seq.airSkipped a) = vs
  split
  · exact .refl s
  · exact (s.entryComplete_calm a).thenQuiet (hd _)

theorem State.entryOpening_quiet (a : Activity) : Quiet s (s.entryOpening a done) := by
  unfold State.entryOpening; simp only
  split
  · exact (s.setSeq_calm _).thenQuiet ((State.requestMoves_calm _ _ _ _).thenQuiet (State.abortPath_quiet _ _))
  · exact (s.setSeq_calm _).thenQuiet ((State.requestMoves_calm _ _ _ _).thenQuiet (State.entryOpened_quiet _ hd _))

theorem State.entryClosed_quiet (a : Activity) : Quiet s (s.entryClosed a done) := by
  unfold State.entryClosed; split
  · exact .refl s
  · exact s.entryOpening_quiet hd a

theorem State.enterPhase_quiet (a : Activity) : Quiet s (s.enterPhase a done) := by
  have h : Calm s (if phaseBlower s.seq.airSkipped a = .stopped then s.blowerStop else s) := by
    split
    · exact s.blowerStop_calm
    · exact .refl s
  unfold State.enterPhase; simp only
  generalize (if phaseBlower s.seq.airSkipped a = .stopped then s.blowerStop else s) = t at h ⊢
  split
  · exact h.thenQuiet ((State.setSeq_calm _ _).thenQuiet ((State.requestMoves_calm _ _ _ _).thenQuiet
      (State.abortPath_quiet _ _)))
  · exact h.thenQuiet ((State.setSeq_calm _ _).thenQuiet ((State.requestMoves_calm _ _ _ _).thenQuiet
      (State.entryClosed_quiet _ hd _)))

omit hd

theorem State.markSlow_calm : Calm s s.markSlow := s.setSeq_calm _

theorem State.refillTest_quiet : Quiet s s.refillTest := by
  unfold State.refillTest; split
  · exact s.endWash_quiet _
  · exact .refl s

theorem State.enterRefill_quiet : Quiet s s.enterRefill := s.enterPhase_quiet State.refillTest_quiet _

theorem State.endRinseShort_quiet : Quiet s s.endRinseShort :=
  (s.setSeq_calm _).thenQuiet (State.enterRefill_quiet _)

theorem State.suspendRinse_quiet : Quiet s s.suspendRinse := by
  unfold State.suspendRinse; simp only; repeat' split
  · exact (s.setSeq_calm _).thenQuiet ((State.requestMove_calm _ _ _ _).thenQuiet (State.abortPath_quiet _ _))
  · exact (s.setSeq_calm _).thenQuiet ((State.requestMove_calm _ _ _ _).thenQuiet (State.endRinseShort_quiet _))
  · exact ((s.setSeq_calm _).trans (State.requestMove_calm _ _ _ _)).quiet

theorem State.rinseFlows_calm : Calm s s.rinseFlows := by
  unfold State.rinseFlows; split
  · exact s.setSeq_calm _
  · exact .refl s

theorem State.resumeRinse_quiet : Quiet s s.resumeRinse := by
  unfold State.resumeRinse; simp only; split
  · exact (s.setSeq_calm _).thenQuiet ((State.requestMove_calm _ _ _ _).thenQuiet (State.abortPath_quiet _ _))
  · exact ((s.setSeq_calm _).trans ((State.requestMove_calm _ _ _ _).trans (State.rinseFlows_calm _))).quiet

theorem State.rinseTest_quiet : Quiet s s.rinseTest := by
  unfold State.rinseTest; repeat' split
  all_goals first | exact .refl s | exact s.suspendRinse_quiet | exact s.resumeRinse_quiet

theorem State.enterRinse_quiet : Quiet s s.enterRinse := s.enterPhase_quiet State.rinseTest_quiet _

theorem State.enterAirWater_quiet : Quiet s s.enterAirWater := s.enterPhase_quiet Quiet.refl _

theorem State.endAir_quiet : Quiet s s.endAir := by
  unfold State.endAir; simp only; repeat' split
  · exact s.blowerEndPulsed_calm.thenQuiet (State.enterAirWater_quiet _)
  · exact (s.blowerEndPulsed_calm.trans (State.setAirEndStop_calm _ _)).thenQuiet (State.enterRinse_quiet _)
  · exact s.blowerEndPulsed_calm.thenQuiet (State.enterRinse_quiet _)

theorem State.enterAir_quiet : Quiet s s.enterAir := s.enterPhase_quiet Quiet.refl _

theorem State.lowerTest_quiet : Quiet s s.lowerTest := by
  unfold State.lowerTest; split
  · exact s.enterAir_quiet
  · exact .refl s

theorem State.enterLower_quiet : Quiet s s.enterLower := s.enterPhase_quiet State.lowerTest_quiet _

theorem State.startWash_quiet : Quiet s s.startWash :=
  (s.setSeq_calm _).thenQuiet ((State.blowerClear_calm _).thenQuiet (State.enterLower_quiet _))

theorem phaseDone_quiet (a : Activity) : Quiet s (phaseDone a s) := by
  cases a
  all_goals first
    | exact .refl s
    | exact s.lowerTest_quiet
    | exact s.rinseTest_quiet
    | exact s.refillTest_quiet

theorem State.washProgress_quiet : Quiet s s.washProgress := by
  unfold State.washProgress; split
  all_goals first
    | exact .refl s
    | exact s.abortProgress_quiet
    | exact (s.rinseFlows_calm).quiet
    | exact s.entryClosed_quiet (fun t => phaseDone_quiet t _) _
    | exact s.entryOpened_quiet (fun t => phaseDone_quiet t _) _

theorem State.faultInWash_quiet : Quiet s s.faultInWash := by
  unfold State.faultInWash; split
  all_goals first
    | exact .refl s
    | exact s.causeFault_calm.thenQuiet (State.abortProgress_quiet _)
    | exact s.abortPath_quiet _

theorem State.giveUpAir_quiet : Quiet s s.giveUpAir := by
  unfold State.giveUpAir; simp only; split
  · exact (s.requestMove_calm _ _ _).thenQuiet (State.abortPath_quiet _ _)
  · exact (s.requestMove_calm _ _ _).quiet

theorem State.blowerFaultInWash_quiet : Quiet s s.blowerFaultInWash := by
  unfold State.blowerFaultInWash; simp only; repeat' split
  all_goals first
    | exact (s.setSeq_calm _).quiet
    | exact (s.setSeq_calm _).thenQuiet (State.endAir_quiet _)
    | exact (s.setSeq_calm _).thenQuiet (State.giveUpAir_quiet _)

theorem State.sequenceSteps_quiet : Quiet s s.sequenceSteps := by
  have hL (x : State) : Quiet x x.lowerSecond := by
    unfold State.lowerSecond; simp only; repeat' split
    all_goals first
      | exact (x.setSeq_calm _).quiet
      | exact (x.setSeq_calm _).thenQuiet (State.enterAir_quiet _)
  have hA (x : State) : Quiet x x.airSecond := by
    unfold State.airSecond; simp only; split
    · exact (x.setSeq_calm _).thenQuiet (State.endAir_quiet _)
    · exact (x.setSeq_calm _).quiet
  have hW (x : State) : Quiet x x.airWaterSecond := by
    unfold State.airWaterSecond; simp only; split
    · exact (x.setSeq_calm _).thenQuiet (State.enterRinse_quiet _)
    · exact (x.setSeq_calm _).quiet
  have hR (x : State) : Quiet x x.rinseSecond := by
    unfold State.rinseSecond; simp only; repeat' split
    all_goals first
      | exact (x.setSeq_calm _).quiet
      | exact (x.setSeq_calm _).thenQuiet (State.enterRefill_quiet _)
      | exact (x.setSeq_calm _).thenQuiet (State.endRinseShort_quiet _)
      | exact (x.setSeq_calm _).thenQuiet (State.rinseTest_quiet _)
  have hF (x : State) : Quiet x x.refillSecond := by
    unfold State.refillSecond; simp only; repeat' split
    all_goals first
      | exact (x.setSeq_calm _).quiet
      | exact (x.setSeq_calm _).thenQuiet (State.endWash_quiet _ _)
  have hc : Calm s s.clockSecond := s.setSeq_calm _
  unfold State.sequenceSteps; split
  · exact .refl s
  · simp only; split
    · exact hc.thenQuiet (hL _)
    · exact hc.thenQuiet (hA _)
    · exact hc.thenQuiet (hW _)
    · exact hc.thenQuiet (hR _)
    · exact hc.thenQuiet (hF _)
    · exact hc.quiet

/-! ### Recovery, completions, reports, switches, the drive second -/

theorem State.startRunning_calm : Calm s s.startRunning := .of s ..

theorem State.recoveryProgress_quiet : Quiet s s.recoveryProgress := by
  unfold State.recoveryProgress; repeat' split
  all_goals first
    | exact .refl s
    | exact s.startRunning_calm.thenQuiet (State.changeState_quiet _ _)

theorem State.beginRecovery_quiet : Quiet s s.beginRecovery :=
  (Calm.of s ..).thenQuiet ((State.requestMoves_calm _ _ _ _).thenQuiet (State.recoveryProgress_quiet _))

theorem State.progress_quiet : Quiet s s.progress := by
  unfold State.progress; split
  all_goals first
    | exact .refl s
    | exact s.recoveryProgress_quiet
    | exact s.washProgress_quiet
    | exact s.ripeningProgress_quiet

theorem State.moveCompleted_quiet (v : Valve) : Quiet s (s.moveCompleted v) :=
  (s.completeMove_calm v).thenQuiet (State.progress_quiet _)

theorem State.reportFault_quiet (v : Valve) : Quiet s (s.reportFault v) := by
  unfold State.reportFault; split
  · exact s.recoveryProgress_quiet
  · exact s.faultInWash_quiet
  · simp only; split
    next hs ht =>
      exact (s.faultOutsideWash_quiet v).trans (State.ripeningProgress_quiet _) (.inl (ht.trans hs.symm))
    · exact s.faultOutsideWash_quiet v
  all_goals exact s.faultOutsideWash_quiet v

theorem State.valveFaults_quiet (v : Valve) (k : FaultKind) : Quiet s (s.valveFaults v k) :=
  (s.faultValve_calm v k).thenQuiet (State.reportFault_quiet _ v)

theorem State.driftLoss_quiet (v : Valve) (e : ValveEnd) : Quiet s (s.driftLoss v e) := by
  unfold State.driftLoss; split
  · exact s.valveFaults_quiet _ _
  · exact (s.redriveValve_calm _ _).quiet

theorem State.switchWhileDriving_quiet (v : Valve) : Quiet s (s.switchWhileDriving v) := by
  unfold State.switchWhileDriving; repeat' split
  all_goals first | exact .refl s | exact s.moveCompleted_quiet v | exact s.driftLoss_quiet v _

theorem State.switchChanged_quiet (v : Valve) : Quiet s (s.switchChanged v) := by
  unfold State.switchChanged; repeat' split
  all_goals first
    | exact .refl s
    | exact s.valveFaults_quiet _ _
    | exact (s.setValve_calm _ _).quiet
    | exact s.switchWhileDriving_quiet v

theorem State.targetSwitch_quiet (v : Valve) : Quiet s (s.targetSwitch v) := by
  unfold State.targetSwitch; split
  · exact (s.setSwitches_calm _ _).thenQuiet (State.switchChanged_quiet _ _)
  · exact .refl s

theorem State.loseRest_quiet (v : Valve) : Quiet s (s.loseRest v) := by
  unfold State.loseRest; repeat' split
  all_goals first
    | exact .refl s
    | exact (s.setSwitches_calm _ _).thenQuiet (State.switchChanged_quiet _ _)

theorem State.endPause_quiet (v : Valve) : Quiet s (s.endPause v) := by
  unfold State.endPause; split
  · simp only; split
    · exact (s.setValve_calm _ _).thenQuiet (State.moveCompleted_quiet _ _)
    · exact (s.setValve_calm _ _).quiet
  · exact .refl s

theorem State.timeOut_quiet (v : Valve) : Quiet s (s.timeOut v) := by
  unfold State.timeOut; split
  · exact s.valveFaults_quiet _ _
  · exact .refl s

theorem State.completeMade_quiet (v : Valve) : Quiet s (s.completeMade v) := by
  unfold State.completeMade; split
  · exact s.moveCompleted_quiet v
  · exact .refl s

theorem State.blowerFaults_quiet : Quiet s s.blowerFaults := by
  unfold State.blowerFaults; split
  · exact s.blowerFaultInWash_quiet
  · exact .refl s

theorem State.feedbackSecond_quiet : Quiet s s.feedbackSecond := by
  unfold State.feedbackSecond; simp only; split
  · exact (s.setBlower_calm _).thenQuiet (State.blowerFaults_quiet _)
  · exact (s.setBlower_calm _).quiet

theorem State.valveSeconds_calm : Calm s s.valveSeconds := Calm.foldl _ (fun t v => t.setValve_calm v _) _ s

theorem State.driveSteps_drops : Drops s s.driveSteps := by
  have ha := s.valveSeconds_calm.quiet.drops
  unfold State.driveSteps; simp only
  generalize s.valveSeconds = a at ha ⊢
  have hb : Drops a (allValves.foldl (fun (t : State) v => t.completeMade v) a) :=
    Drops.foldl _ (fun t v => (t.completeMade_quiet v).drops) _ a
  generalize allValves.foldl (fun (t : State) v => t.completeMade v) a = b at hb ⊢
  have hc : Drops b (allValves.foldl (fun (t : State) v => t.timeOut v) b) :=
    Drops.foldl _ (fun t v => (t.timeOut_quiet v).drops) _ b
  generalize allValves.foldl (fun (t : State) v => t.timeOut v) b = c at hc ⊢
  exact ((ha.trans hb).trans hc).trans ((State.feedbackSecond_quiet _).thenCalm (State.pulseSecond_calm _)).drops

theorem State.pressureChanged_quiet (b : Bool) :
    Quiet { s with pins := { s.pins with pressure := b } } (s.pressureChanged b) := by
  unfold State.pressureChanged; simp only
  generalize ({ s with pins := { s.pins with pressure := b } } : State) = t
  repeat' split
  all_goals first
    | exact .refl t
    | exact (t.setBlower_calm _).thenQuiet (State.blowerFaults_quiet _)
    | exact (t.setBlower_calm _).quiet

theorem State.reportLeft_quiet (v : Valve) : Quiet s (s.reportLeft v) := by
  unfold State.reportLeft; split
  · exact s.faultOutsideWash_quiet v
  · exact .refl s

theorem State.returnToService_drops : Drops s s.returnToService := by
  have h0 : Calm s { s with
      rot := { s.rot with held := false, recovery := false, ripenFail := false }
      cond := { s.cond with shortRun := false } } := .of s ..
  unfold State.returnToService; simp only
  generalize ({ s with
      rot := { s.rot with held := false, recovery := false, ripenFail := false }
      cond := { s.cond with shortRun := false } } : State) = x at h0 ⊢
  have h1 := ((h0.trans x.clearFaults_calm).thenQuiet (x.clearFaults.changeState_quiet .ripening)).drops
  generalize x.clearFaults.changeState .ripening = y at h1 ⊢
  have h2 := (h1.trans y.startRipening_calm.quiet.drops).trans
    (Drops.foldl (fun x v => x.reportLeft v) (fun x v => (x.reportLeft_quiet v).drops) allValves _)
  generalize allValves.foldl (fun (x : State) v => x.reportLeft v) y.startRipening = z at h2 ⊢
  split
  · exact h2.trans z.ripeningClosed_calm.quiet.drops
  · exact h2

theorem State.breakThrough_quiet : Quiet s s.breakThrough := by
  unfold State.breakThrough; simp only; repeat' split
  all_goals first
    | exact .refl s
    | exact (Calm.of s ..).thenQuiet ((State.requestMoves_calm _ _ _ _).thenQuiet (State.changeState_quiet _ _))
    | exact ((Calm.of s ..).trans ((State.requestMoves_calm _ _ _ _).trans (State.updateUrgency_calm _))).quiet

theorem State.settle_drops : Drops s s.settle := by
  unfold State.settle; simp only; split
  · exact (Calm.of s ..).quiet.drops.trans ((State.enterWashing_quiet _).drops.trans
      ((State.startWash_quiet _).thenCalm (State.requestStatus_calm _)).drops)
  · exact ((Calm.of s ..).thenQuiet (State.yieldFor_quiet _ _)).drops

theorem State.release_quiet : Quiet s s.release := by
  have hp (x : State) (v : Valve) : Calm x (x.takePosition v) := by
    unfold State.takePosition; split
    · exact x.setValve_calm _ _
    · exact .refl x
  have h : Calm s (allValves.foldl (fun (x : State) v => x.takePosition v) s) := Calm.foldl _ hp _ s
  unfold State.release; simp only; split
  · exact h.thenQuiet ((Calm.of _ ..).thenQuiet ((State.startRunning_calm _).thenQuiet
      ((State.resumeRun_calm _).thenQuiet (State.changeState_quiet _ _))))
  · exact h.thenQuiet ((Calm.of _ ..).thenQuiet ((State.startRunning_calm _).thenQuiet (State.changeState_quiet _ _)))
  · exact h.thenQuiet ((Calm.of _ ..).thenQuiet (State.beginRecovery_quiet _))

theorem State.survey_calm : Calm s s.survey :=
  (Calm.foldl _ (fun t v => t.setValve_calm v _) _ s).trans (Calm.of _ ..)

theorem State.takeSample_drops (ch : Channel) (n : Nat) :
    Drops (if s.scanning then s.setChannel ch ((s.meas.get ch).take (s.cfg.lo ch) (s.cfg.hi ch) n) else s)
      (s.takeSample ch n) := by
  have hT (x b : State) : Drops x (x.turbidityNews b) := by
    unfold State.turbidityNews; simp only; split
    · exact (x.followDecision_calm.trans (State.ripeningChannelLost_calm _)).quiet.drops
    · exact (x.followDecision_calm).quiet.drops
  have hL (x b : State) : Drops x (x.levelNews b) := by
    unfold State.levelNews; simp only; repeat' split
    all_goals first
      | exact (Quiet.refl x).drops
      | exact x.lowerTest_quiet.drops
      | exact x.refillTest_quiet.drops
      | exact x.lowerTest_quiet.drops.trans (State.refillTest_quiet _).drops
  have hK (x b : State) : Drops x (x.tankNews b) := by
    unfold State.tankNews; repeat' split
    all_goals first | exact (Quiet.refl x).drops | exact x.resumeRinse_quiet.drops | exact x.rinseTest_quiet.drops
  have hN (x b : State) : Drops x (x.channelNews ch b) := by
    cases ch <;> first | exact (Quiet.refl x).drops | exact hT x b | exact hL x b | exact hK x b
  have hE (x : State) : Drops x x.endInputs := by
    unfold State.endInputs; split
    · exact (x.survey_calm).quiet.drops
    · exact (Quiet.refl x).drops
  unfold State.takeSample; split
  · simpa using (hN _ _).trans (hE _)
  · exact (Quiet.refl s).drops

end Sys2Proof.Machine
end

