-- ==== Sys2Proof/Laws/Link.lean ====
section
/-! SUPPORT. The characters of the lines, the access wait and an attempt with its echo: what each operation on them
does, said once. -/

namespace Sys2Proof

/-- A station time takes at least one byte of an answer and leaves room for the rest of it (R182, R183). -/
theorem Config.stationTimeBytes_bounds : 1 ≤ Config.stationTimeBytes ∧ Config.stationTimeBytes ≤ 226 := by
  have h := Config.stationTimeMore.isLt
  unfold Config.stationTimeBytes; omega

end Sys2Proof

namespace Sys2Proof.Machine

/-! ### Characters (R56) -/

/-- The bit at each place of a character: start, data least significant first, marker, stop. -/
theorem LineChar.bits_getLsbD (c : LineChar) (i : Nat) :
    c.bits.getLsbD i =
      if i = 0 then false
      else if i < 9 then c.data.getLsbD (i - 1)
      else if i = 9 then c.marker
      else if i = 10 then !c.framingError
      else false := by
  show (BitVec.ofBool (!c.framingError) ++ (BitVec.ofBool c.marker ++ (c.data ++ (0#1 : BitVec 1)) : BitVec (1 + (8 + 1)))
    : BitVec (1 + (1 + (8 + 1)))).getLsbD i = _
  rw [BitVec.getLsbD_append, BitVec.getLsbD_append, BitVec.getLsbD_append]
  simp only [BitVec.getLsbD_ofBool, BitVec.getLsbD_zero]
  rcases Nat.lt_or_ge i 11 with h | h
  · rcases Nat.lt_or_ge i 9 with h9 | h9
    · rcases Nat.eq_zero_or_pos i with h0 | h0
      · subst h0; simp
      · simp [h9, show ¬ i < 1 by omega, show i ≠ 0 by omega, show i < 10 by omega]
    · rcases (show i = 9 ∨ i = 10 by omega) with h | h <;> subst h <;> simp
  · simp [show ¬ i < 10 by omega, show ¬ i < 9 by omega, show i ≠ 0 by omega, show i ≠ 9 by omega, show i ≠ 10 by omega,
      show i - 10 ≠ 0 by omega]

@[simp] theorem LineChar.extract_data (c : LineChar) : c.bits.extractLsb' 1 8 = c.data := by
  apply BitVec.eq_of_getLsbD_eq
  intro i h
  simp [c.bits_getLsbD, h, show 1 + i < 9 by omega]

/-- The bits of a character read back as that character. -/
@[simp] theorem readChar_bits (c : LineChar) : readChar c.bits = some c := by
  unfold readChar; simp [c.bits_getLsbD, -BitVec.getLsbD_eq_getElem]

/-- Eleven bits with the start-bit position high are no character. -/
theorem readChar_high {b : LineBits} (h : b.getLsbD 0 = true) : readChar b = none := by simp [readChar, h]

@[simp] theorem lineBits_nil : lineBits [] = [] := rfl

/-- The lead character alone has the marker bit set. -/
theorem lineBits_cons (lead : Byte) (rest : List Byte) :
    lineBits (lead :: rest) = LineChar.bits ⟨lead, true, false⟩
      :: rest.map (fun b => LineChar.bits ⟨b, false, false⟩) := by
  simp [lineBits, lineChars, Function.comp_def]

@[simp] theorem lineBits_length (bytes : List Byte) : (lineBits bytes).length = bytes.length := by
  cases bytes <;> simp [lineBits, lineChars]

/-- The character at a place carries the byte at that place. -/
theorem lineBits_get (bytes : List Byte) (i : Nat) (b : Byte) (h : bytes[i]? = some b) :
    (lineBits bytes)[i]? = some (LineChar.bits ⟨b, decide (i = 0), false⟩) := by
  cases bytes with
  | nil => simp at h
  | cons lead rest =>
    rw [lineBits_cons]
    cases i with
    | zero => simp at h ⊢; simp [h]
    | succ j => simp at h ⊢; simp [h]

/-! ### The access wait (R67) -/

@[simp] theorem Link.quietFor_queue (n : Nat) (l : Link) : (l.quietFor n).queue = l.queue := rfl
@[simp] theorem Link.quietFor_attempt (n : Nat) (l : Link) : (l.quietFor n).attempt = l.attempt := rfl
@[simp] theorem Link.quietFor_assembly (n : Nat) (l : Link) : (l.quietFor n).assembly = l.assembly := rfl
@[simp] theorem Link.quietFor_echoed (n : Nat) (l : Link) : (l.quietFor n).echoed = l.echoed := rfl
@[simp] theorem Link.quietFor_wait (n : Nat) (l : Link) : (l.quietFor n).accessWait = l.accessWait.map (max n) := rfl

/-- What a line quiet since the last character does to the wait: only one that started then is raised. -/
theorem Link.quietSince_wait (n : Nat) (l : Link) :
    (l.quietSince n).accessWait = if l.waitFromQuiet then l.accessWait.map (max n) else l.accessWait := by
  unfold Link.quietSince; split <;> rfl

theorem Link.quietSince_eq (n : Nat) (l : Link) : l.quietSince n = { l with accessWait := (l.quietSince n).accessWait } := by
  unfold Link.quietSince; split <;> rfl

@[simp] theorem Link.quietFor_gap (n own : Nat) (l : Link) : (l.quietFor n).gap own = l.gap own := rfl

/-- The gap of a head frame is 24 + 2 × (class × 16 + own number) bit times. -/
theorem Link.gap_cons {l : Link} {f : Frame} {rest : List Frame} (h : l.queue = f :: rest) (own : Nat) :
    l.gap own = 24 + 2 * ((if f.isStatus then 1 else 0) * 16 + own) := by
  cases f <;> simp [Link.gap, h, accessGap, Frame.kind, FrameKind.cls, Frame.isStatus]

/-- An attempt begins where a running wait has reached the head frame's gap, and nowhere else. -/
theorem Link.tryAttempt_eq (l : Link) (own : Nat) :
    l.tryAttempt own = if l.queue ≠ [] ∧ l.accessWait.any (l.gap own ≤ ·) then l.begin else l := by
  unfold Link.tryAttempt Link.gap
  cases hq : l.queue <;> cases hw : l.accessWait <;> simp

/-- A line quiet for the whole gap begins the attempt of a head frame whose wait runs. -/
theorem Link.tryAttempt_quiet {l : Link} {f : Frame} {rest : List Frame} {n : Nat} (own : Nat) (hq : l.queue = f :: rest)
    (hw : l.accessWait = some n) : (l.quietFor (l.gap own)).tryAttempt own = l.begin := by
  rw [Link.tryAttempt_eq, if_pos ⟨by simp [hq], by rw [Link.quietFor_wait, hw]; exact decide_eq_true (Nat.le_max_left ..)⟩]
  rfl

/-! ### An attempt (R68, R69) -/

@[simp] theorem Link.pop_queue (l : Link) : l.pop.queue = l.queue.drop 1 := rfl
@[simp] theorem Link.pop_attempt (l : Link) : l.pop.attempt = none := rfl
@[simp] theorem Link.pop_echoed (l : Link) : l.pop.echoed = 0 := rfl
@[simp] theorem Link.begin_queue (l : Link) : l.begin.queue = l.queue := rfl
@[simp] theorem Link.begin_wait (l : Link) : l.begin.accessWait = none := rfl
@[simp] theorem Link.begin_echoed (l : Link) : l.begin.echoed = 0 := rfl
@[simp] theorem Link.abandon_queue (l : Link) : l.abandon.queue = l.queue := rfl
@[simp] theorem Link.abandon_attempt (l : Link) : l.abandon.attempt = l.attempt := rfl
@[simp] theorem Link.abandon_wait (l : Link) : l.abandon.accessWait = some 0 := rfl
@[simp] theorem Link.abandon_echoed (l : Link) : l.abandon.echoed = 0 := rfl

variable {s : State}

/-- While the station drives its head frame, eleven bits read from the line are its echo. -/
theorem State.readLine_echo {f : Frame} {rest : List Frame} (bits : LineBits) (hr : s.link.receiver = true)
    (ht : s.link.transmitting = true) (hq : s.link.queue = f :: rest) : s.readLine bits = s.echoOf f bits := by
  simp [State.readLine, State.echo, hr, ht, hq]

/-- While it does not, a character reads as one of another station. -/
theorem State.readLine_char (c : LineChar) (hr : s.link.receiver = true) (ht : s.link.transmitting = false) :
    s.readLine c.bits = s.lineChar c := by
  simp [State.readLine, hr, ht]

/-- What the echo of the next character does: the last match sends the frame, an earlier one is counted, a mismatch
abandons the attempt. -/
theorem State.echoOf_eq {f : Frame} {byte : Byte} (bits : LineBits)
    (h : (f.bytes s.ownNumber)[s.link.echoed]? = some byte) :
    s.echoOf f bits =
      if bits = LineChar.bits ⟨byte, decide (s.link.echoed = 0), false⟩ then
        if s.link.echoed + 1 = (f.bytes s.ownNumber).length then s.frameSent f
        else { s with link := { s.link with echoed := s.link.echoed + 1 } }
      else s.attemptAbandoned f := by
  simp [State.echoOf, State.driven, lineBits_get _ _ _ h]

/-- The end of an attempt leaves every block but the link and the rotation controller alone. -/
theorem State.attemptAbandoned_calm (f : Frame) : Calm s (s.attemptAbandoned f) := by
  unfold State.attemptAbandoned; split
  · exact s.frameDiscarded_calm f
  · exact .of s ..

/-- So does the echo of a character. -/
theorem State.echo_quiet (bits : LineBits) : Quiet s (s.echo bits) := by
  unfold State.echo State.echoOf; repeat' split
  all_goals first
    | exact .refl s
    | exact s.frameSent_quiet _
    | exact (Calm.of s ..).quiet
    | exact (s.attemptAbandoned_calm _).quiet

end Sys2Proof.Machine
end

