-- ==== Sys2Proof/Laws/Memory.lean ====
section
/-! SUPPORT. The configuration memory: reading after writing, and the canonical form kept by every write. -/

namespace Sys2Proof.Machine

/-- The empty list is in canonical form: the memory at reset. -/
theorem Memory.wf_nil : Memory.wf [] := by simp [Memory.wf]

/-- The rest of a canonical list is canonical. -/
theorem Memory.wf_tail {c : Host.Cell} {m : Memory} (h : Memory.wf (c :: m)) : Memory.wf m :=
  ⟨(List.pairwise_cons.mp h.1).2, fun d hd => h.2 d (List.mem_cons_of_mem _ hd)⟩

/-- A cell to list stands at its own address and is not the factory content. -/
theorem Memory.mem_cell {a : Nat} {b : Byte} {c : Host.Cell} (h : c ∈ Memory.cell a b) :
    c = (a, b) ∧ b ≠ Memory.factory a := by
  unfold Memory.cell at h
  split at h
  · simp at h
  · exact ⟨by simpa using h, by assumption⟩

/-- Every address listed after a write is the written one or was listed before. -/
theorem Memory.mem_write {m : Memory} {a : Nat} {b : Byte} {c : Host.Cell} (h : c ∈ m.write a b) :
    (c = (a, b) ∧ b ≠ Memory.factory a) ∨ c ∈ m := by
  induction m with
  | nil => exact .inl (Memory.mem_cell h)
  | cons d rest ih =>
    obtain ⟨k, v⟩ := d
    simp only [Memory.write] at h
    split at h
    · rcases List.mem_append.mp h with h | h
      · exact .inl (Memory.mem_cell h)
      · exact .inr h
    · split at h
      · rcases List.mem_append.mp h with h | h
        · exact .inl (Memory.mem_cell h)
        · exact .inr (List.mem_cons_of_mem _ h)
      · rcases List.mem_cons.mp h with h | h
        · exact .inr (h ▸ List.mem_cons_self)
        · exact (ih h).imp_right (List.mem_cons_of_mem _)

/-- Putting a cell before a canonical list of higher addresses keeps the form. -/
theorem Memory.wf_cell_append {m : Memory} {a : Nat} {b : Byte} (h : Memory.wf m) (hlt : ∀ c ∈ m, a < c.1) :
    Memory.wf (Memory.cell a b ++ m) := by
  unfold Memory.cell
  split
  · simpa using h
  · rename_i hb
    refine ⟨List.pairwise_cons.mpr ⟨fun c hc => hlt c hc, h.1⟩, fun c hc => ?_⟩
    rcases List.mem_cons.mp hc with hc | hc
    · subst hc; exact hb
    · exact h.2 c hc

/-- A write keeps the canonical form. -/
theorem Memory.wf_write {m : Memory} (h : Memory.wf m) (a : Nat) (b : Byte) : Memory.wf (m.write a b) := by
  induction m with
  | nil => simpa [Memory.write] using Memory.wf_cell_append (a := a) (b := b) Memory.wf_nil (by simp)
  | cons d rest ih =>
    obtain ⟨k, v⟩ := d
    have hk := (List.pairwise_cons.mp h.1).1
    simp only [Memory.write]
    split
    · rename_i hlt
      refine Memory.wf_cell_append h fun c hc => ?_
      rcases List.mem_cons.mp hc with hc | hc
      · subst hc; exact hlt
      · exact Nat.lt_trans hlt (hk c hc)
    · split
      · rename_i heq
        subst heq
        exact Memory.wf_cell_append (Memory.wf_tail h) hk
      · rename_i hnlt hne
        have ih := ih (Memory.wf_tail h)
        refine ⟨List.pairwise_cons.mpr ⟨fun c hc => ?_, ih.1⟩, fun c hc => ?_⟩
        · rcases Memory.mem_write hc with ⟨hc, -⟩ | hc
          · subst hc; exact Nat.lt_of_le_of_ne (Nat.le_of_not_lt hnlt) (Ne.symm hne)
          · exact hk c hc
        · rcases List.mem_cons.mp hc with hc | hc
          · subst hc; exact h.2 _ List.mem_cons_self
          · exact ih.2 c hc

/-- Writing a list of bytes keeps the canonical form. -/
theorem Memory.wf_writeList {m : Memory} (h : Memory.wf m) (a : Nat) (bs : List Byte) :
    Memory.wf (m.writeList a bs) := by
  induction bs generalizing m a with
  | nil => exact h
  | cons b bs ih => exact ih (Memory.wf_write h a b) (a + 1)

/-- Reading past a cell of another address. -/
theorem Memory.read_cell_append {m : Memory} {a x : Nat} {b : Byte} :
    Memory.read (Memory.cell a b ++ m) x =
      if a = x ∧ b ≠ Memory.factory a then b else Memory.read m x := by
  unfold Memory.cell
  split
  · simp_all
  · simp [Memory.read, *]

/-- An address below every listed one reads as the factory content. -/
theorem Memory.read_of_lt {m : Memory} {x : Nat} (h : ∀ c ∈ m, x < c.1) : m.read x = Memory.factory x := by
  induction m with
  | nil => rfl
  | cons d rest ih =>
    obtain ⟨k, v⟩ := d
    have hx : x < k := h _ List.mem_cons_self
    simp only [Memory.read, if_neg (Nat.ne_of_gt hx)]
    exact ih fun c hc => h c (List.mem_cons_of_mem _ hc)

/-- A read after a write: the written byte at its address, every other byte as it was. -/
theorem Memory.read_write {m : Memory} (h : Memory.wf m) (a x : Nat) (b : Byte) :
    (m.write a b).read x = if a = x then b else m.read x := by
  induction m with
  | nil =>
    have := Memory.read_cell_append (m := []) (a := a) (x := x) (b := b)
    simp only [List.append_nil] at this
    simp only [Memory.write, this, Memory.read]
    by_cases hax : a = x
    · subst hax; by_cases hb : b = Memory.factory a <;> simp [hb]
    · simp [hax]
  | cons d rest ih =>
    obtain ⟨k, v⟩ := d
    have hk := (List.pairwise_cons.mp h.1).1
    simp only [Memory.write]
    split
    · rename_i hlt
      rw [Memory.read_cell_append]
      by_cases hax : a = x
      · subst hax
        have hr : Memory.read ((k, v) :: rest) a = Memory.factory a :=
          Memory.read_of_lt fun c hc => by
            rcases List.mem_cons.mp hc with hc | hc
            · subst hc; exact hlt
            · exact Nat.lt_trans hlt (hk c hc)
        by_cases hb : b = Memory.factory a <;> simp [hb, hr]
      · simp [hax]
    · split
      · rename_i heq
        subst heq
        rw [Memory.read_cell_append]
        by_cases hax : a = x
        · subst hax
          have hr : Memory.read rest a = Memory.factory a := Memory.read_of_lt hk
          by_cases hb : b = Memory.factory a <;> simp [hb, hr]
        · simp [hax, Memory.read]
      · rename_i hnlt hne
        simp only [Memory.read]
        rw [ih (Memory.wf_tail h)]
        by_cases hkx : k = x
        · subst hkx; simp [hne]
        · simp [hkx]

/-- A read after writing a list of bytes: the written bytes at their addresses, every other byte as it was. -/
theorem Memory.read_writeList {m : Memory} (h : Memory.wf m) (a x : Nat) (bs : List Byte) :
    (m.writeList a bs).read x = if a ≤ x then (bs[x - a]?).getD (m.read x) else m.read x := by
  induction bs generalizing m a with
  | nil => simp [Memory.writeList]
  | cons b bs ih =>
    simp only [Memory.writeList]
    rw [ih (Memory.wf_write h a b), Memory.read_write h]
    by_cases hlt : a + 1 ≤ x
    · have hne : a ≠ x := by omega
      have hle : a ≤ x := by omega
      obtain ⟨n, rfl⟩ : ∃ n, x = a + 1 + n := ⟨x - (a + 1), by omega⟩
      have e1 : a + 1 + n - (a + 1) = n := by omega
      have e2 : a + 1 + n - a = n + 1 := by omega
      simp [hlt, hne, hle, e1, e2]
    · by_cases hax : a = x
      · subst hax; simp [hlt]
      · have : ¬ a ≤ x := by omega
        simp [hlt, hax, this]

end Sys2Proof.Machine
end

