-- ==== Sys2Proof/Laws/Operations.lean ====
section
/-! SUPPORT. What each shared operation of the drive unit and of the rotation controller can do, said once: the fields
it leaves as they were, and the result of those it changes. -/

namespace Sys2Proof.Machine

variable (s : State)

/-! ### `State.requestMove` -/

@[simp] theorem State.requestMove_now (who : Requester) (e : ValveEnd) (v : Valve) : (s.requestMove who e v).now = s.now := rfl

@[simp] theorem State.requestMove_pins (who : Requester) (e : ValveEnd) (v : Valve) : (s.requestMove who e v).pins = s.pins := rfl

@[simp] theorem State.requestMove_mem (who : Requester) (e : ValveEnd) (v : Valve) : (s.requestMove who e v).mem = s.mem := rfl

@[simp] theorem State.requestMove_meas (who : Requester) (e : ValveEnd) (v : Valve) : (s.requestMove who e v).meas = s.meas := rfl

@[simp] theorem State.requestMove_cond (who : Requester) (e : ValveEnd) (v : Valve) : (s.requestMove who e v).cond = s.cond := rfl

@[simp] theorem State.requestMove_rot (who : Requester) (e : ValveEnd) (v : Valve) : (s.requestMove who e v).rot = s.rot := rfl

@[simp] theorem State.requestMove_link (who : Requester) (e : ValveEnd) (v : Valve) : (s.requestMove who e v).link = s.link := rfl

@[simp] theorem State.requestMove_peers (who : Requester) (e : ValveEnd) (v : Valve) : (s.requestMove who e v).peers = s.peers := rfl

@[simp] theorem State.requestMove_seq (who : Requester) (e : ValveEnd) (v : Valve) : (s.requestMove who e v).seq = s.seq := rfl

@[simp] theorem State.requestMove_rip (who : Requester) (e : ValveEnd) (v : Valve) : (s.requestMove who e v).rip = s.rip := rfl

@[simp] theorem State.requestMove_startup (who : Requester) (e : ValveEnd) (v : Valve) : (s.requestMove who e v).startup = s.startup := rfl

@[simp] theorem State.requestMove_port (who : Requester) (e : ValveEnd) (v : Valve) : (s.requestMove who e v).port = s.port := rfl

@[simp] theorem State.requestMove_delivered (who : Requester) (e : ValveEnd) (v : Valve) : (s.requestMove who e v).delivered = s.delivered := rfl

@[simp] theorem State.requestMove_freeCount (who : Requester) (e : ValveEnd) (v : Valve) : (s.requestMove who e v).freeCount = s.freeCount := rfl

@[simp] theorem State.requestMove_pending (who : Requester) (e : ValveEnd) (v : Valve) : (s.requestMove who e v).pending = s.pending := rfl

/-- A move request changes the record of its valve alone (R146). -/
@[simp] theorem State.requestMove_valve (who : Requester) (e : ValveEnd) (v w : Valve) :
    (s.requestMove who e v).valve w = if w = v then (s.valve v).request who e else s.valve w := by
  simp [State.requestMove]

/-- A move request leaves the blower's record but for the interlock of its output (R154). -/
theorem State.requestMove_blower (who : Requester) (e : ValveEnd) (v : Valve) :
    (s.requestMove who e v).drive.blower =
      { s.drive.blower with
        output := s.drive.blower.output && ((s.requestMove who e v).valve .air).pos == .opened } := by
  cases v <;> rfl

/-! ### `State.requestMoves` -/

@[simp] theorem State.requestMoves_now (who : Requester) (e : ValveEnd) (vs : List Valve) : (s.requestMoves who e vs).now = s.now := by
  unfold State.requestMoves; induction vs generalizing s with
  | nil => rfl
  | cons v vs ih => simp [ih]

@[simp] theorem State.requestMoves_pins (who : Requester) (e : ValveEnd) (vs : List Valve) : (s.requestMoves who e vs).pins = s.pins := by
  unfold State.requestMoves; induction vs generalizing s with
  | nil => rfl
  | cons v vs ih => simp [ih]

@[simp] theorem State.requestMoves_mem (who : Requester) (e : ValveEnd) (vs : List Valve) : (s.requestMoves who e vs).mem = s.mem := by
  unfold State.requestMoves; induction vs generalizing s with
  | nil => rfl
  | cons v vs ih => simp [ih]

@[simp] theorem State.requestMoves_meas (who : Requester) (e : ValveEnd) (vs : List Valve) : (s.requestMoves who e vs).meas = s.meas := by
  unfold State.requestMoves; induction vs generalizing s with
  | nil => rfl
  | cons v vs ih => simp [ih]

@[simp] theorem State.requestMoves_cond (who : Requester) (e : ValveEnd) (vs : List Valve) : (s.requestMoves who e vs).cond = s.cond := by
  unfold State.requestMoves; induction vs generalizing s with
  | nil => rfl
  | cons v vs ih => simp [ih]

@[simp] theorem State.requestMoves_rot (who : Requester) (e : ValveEnd) (vs : List Valve) : (s.requestMoves who e vs).rot = s.rot := by
  unfold State.requestMoves; induction vs generalizing s with
  | nil => rfl
  | cons v vs ih => simp [ih]

@[simp] theorem State.requestMoves_link (who : Requester) (e : ValveEnd) (vs : List Valve) : (s.requestMoves who e vs).link = s.link := by
  unfold State.requestMoves; induction vs generalizing s with
  | nil => rfl
  | cons v vs ih => simp [ih]

@[simp] theorem State.requestMoves_peers (who : Requester) (e : ValveEnd) (vs : List Valve) : (s.requestMoves who e vs).peers = s.peers := by
  unfold State.requestMoves; induction vs generalizing s with
  | nil => rfl
  | cons v vs ih => simp [ih]

@[simp] theorem State.requestMoves_seq (who : Requester) (e : ValveEnd) (vs : List Valve) : (s.requestMoves who e vs).seq = s.seq := by
  unfold State.requestMoves; induction vs generalizing s with
  | nil => rfl
  | cons v vs ih => simp [ih]

@[simp] theorem State.requestMoves_rip (who : Requester) (e : ValveEnd) (vs : List Valve) : (s.requestMoves who e vs).rip = s.rip := by
  unfold State.requestMoves; induction vs generalizing s with
  | nil => rfl
  | cons v vs ih => simp [ih]

@[simp] theorem State.requestMoves_startup (who : Requester) (e : ValveEnd) (vs : List Valve) : (s.requestMoves who e vs).startup = s.startup := by
  unfold State.requestMoves; induction vs generalizing s with
  | nil => rfl
  | cons v vs ih => simp [ih]

@[simp] theorem State.requestMoves_port (who : Requester) (e : ValveEnd) (vs : List Valve) : (s.requestMoves who e vs).port = s.port := by
  unfold State.requestMoves; induction vs generalizing s with
  | nil => rfl
  | cons v vs ih => simp [ih]

@[simp] theorem State.requestMoves_delivered (who : Requester) (e : ValveEnd) (vs : List Valve) : (s.requestMoves who e vs).delivered = s.delivered := by
  unfold State.requestMoves; induction vs generalizing s with
  | nil => rfl
  | cons v vs ih => simp [ih]

@[simp] theorem State.requestMoves_freeCount (who : Requester) (e : ValveEnd) (vs : List Valve) : (s.requestMoves who e vs).freeCount = s.freeCount := by
  unfold State.requestMoves; induction vs generalizing s with
  | nil => rfl
  | cons v vs ih => simp [ih]

@[simp] theorem State.requestMoves_pending (who : Requester) (e : ValveEnd) (vs : List Valve) : (s.requestMoves who e vs).pending = s.pending := by
  unfold State.requestMoves; induction vs generalizing s with
  | nil => rfl
  | cons v vs ih => simp [ih]

/-- Move requests for distinct valves change the records of those valves alone (R146). -/
theorem State.requestMoves_valve (who : Requester) (e : ValveEnd) (vs : List Valve) (w : Valve) (h : vs.Nodup) :
    (s.requestMoves who e vs).valve w = if w ∈ vs then (s.valve w).request who e else s.valve w := by
  unfold State.requestMoves
  induction vs generalizing s with
  | nil => simp
  | cons v vs ih =>
    rw [List.foldl_cons, ih _ (List.nodup_cons.1 h).2, State.requestMove_valve]
    by_cases hw : w = v
    · subst hw; simp [(List.nodup_cons.1 h).1]
    · simp [hw]

/-- The commanded target of a valve is the target of the last request (R146). -/
@[simp] theorem ValveRec.request_commanded (who : Requester) (e : ValveEnd) (r : ValveRec) :
    (r.request who e).commanded = some e := by
  unfold ValveRec.request ValveRec.join ValveRec.begin ValveRec.reverse; cases r.pos <;> cases e <;> rfl

/-- Move requests of the same requester and target leave a valve in FAULT where it is. -/
@[simp] theorem ValveRec.request_pos_fault (who : Requester) (e : ValveEnd) (r : ValveRec) :
    (r.request who e).pos = .fault ↔ r.pos = .fault := by
  unfold ValveRec.request ValveRec.join ValveRec.begin ValveRec.reverse ValveEnd.moving
  cases h : r.pos <;> cases e <;> simp

/-! ### `State.setDecision` -/

@[simp] theorem State.setDecision_now (d : Option Nat) : (s.setDecision d).now = s.now := by
  unfold State.setDecision; simp only; split <;> rfl

@[simp] theorem State.setDecision_pins (d : Option Nat) : (s.setDecision d).pins = s.pins := by
  unfold State.setDecision; simp only; split <;> rfl

@[simp] theorem State.setDecision_mem (d : Option Nat) : (s.setDecision d).mem = s.mem := by
  unfold State.setDecision; simp only; split <;> rfl

@[simp] theorem State.setDecision_cond (d : Option Nat) : (s.setDecision d).cond = s.cond := by
  unfold State.setDecision; simp only; split <;> rfl

@[simp] theorem State.setDecision_rot (d : Option Nat) : (s.setDecision d).rot = s.rot := by
  unfold State.setDecision; simp only; split <;> rfl

@[simp] theorem State.setDecision_link (d : Option Nat) : (s.setDecision d).link = s.link := by
  unfold State.setDecision; simp only; split <;> rfl

@[simp] theorem State.setDecision_peers (d : Option Nat) : (s.setDecision d).peers = s.peers := by
  unfold State.setDecision; simp only; split <;> rfl

@[simp] theorem State.setDecision_seq (d : Option Nat) : (s.setDecision d).seq = s.seq := by
  unfold State.setDecision; simp only; split <;> rfl

@[simp] theorem State.setDecision_drive (d : Option Nat) : (s.setDecision d).drive = s.drive := by
  unfold State.setDecision; simp only; split <;> rfl

@[simp] theorem State.setDecision_startup (d : Option Nat) : (s.setDecision d).startup = s.startup := by
  unfold State.setDecision; simp only; split <;> rfl

@[simp] theorem State.setDecision_port (d : Option Nat) : (s.setDecision d).port = s.port := by
  unfold State.setDecision; simp only; split <;> rfl

@[simp] theorem State.setDecision_delivered (d : Option Nat) : (s.setDecision d).delivered = s.delivered := by
  unfold State.setDecision; simp only; split <;> rfl

@[simp] theorem State.setDecision_freeCount (d : Option Nat) : (s.setDecision d).freeCount = s.freeCount := by
  unfold State.setDecision; simp only; split <;> rfl

@[simp] theorem State.setDecision_pending (d : Option Nat) : (s.setDecision d).pending = s.pending := by
  unfold State.setDecision; simp only; split <;> rfl

/-! ### `State.followDecision` -/

@[simp] theorem State.followDecision_now : (s.followDecision).now = s.now := by
  unfold State.followDecision; split <;> simp

@[simp] theorem State.followDecision_pins : (s.followDecision).pins = s.pins := by
  unfold State.followDecision; split <;> simp

@[simp] theorem State.followDecision_mem : (s.followDecision).mem = s.mem := by
  unfold State.followDecision; split <;> simp

@[simp] theorem State.followDecision_cond : (s.followDecision).cond = s.cond := by
  unfold State.followDecision; split <;> simp

@[simp] theorem State.followDecision_rot : (s.followDecision).rot = s.rot := by
  unfold State.followDecision; split <;> simp

@[simp] theorem State.followDecision_link : (s.followDecision).link = s.link := by
  unfold State.followDecision; split <;> simp

@[simp] theorem State.followDecision_peers : (s.followDecision).peers = s.peers := by
  unfold State.followDecision; split <;> simp

@[simp] theorem State.followDecision_seq : (s.followDecision).seq = s.seq := by
  unfold State.followDecision; split <;> simp

@[simp] theorem State.followDecision_drive : (s.followDecision).drive = s.drive := by
  unfold State.followDecision; split <;> simp

@[simp] theorem State.followDecision_startup : (s.followDecision).startup = s.startup := by
  unfold State.followDecision; split <;> simp

@[simp] theorem State.followDecision_port : (s.followDecision).port = s.port := by
  unfold State.followDecision; split <;> simp

@[simp] theorem State.followDecision_delivered : (s.followDecision).delivered = s.delivered := by
  unfold State.followDecision; split <;> simp

@[simp] theorem State.followDecision_freeCount : (s.followDecision).freeCount = s.freeCount := by
  unfold State.followDecision; split <;> simp

@[simp] theorem State.followDecision_pending : (s.followDecision).pending = s.pending := by
  unfold State.followDecision; split <;> simp

/-! ### `State.urgencyOnEntry` -/

@[simp] theorem State.urgencyOnEntry_now (old : ServiceState) : (s.urgencyOnEntry old).now = s.now := by
  unfold State.urgencyOnEntry; repeat' split
  all_goals rfl

@[simp] theorem State.urgencyOnEntry_pins (old : ServiceState) : (s.urgencyOnEntry old).pins = s.pins := by
  unfold State.urgencyOnEntry; repeat' split
  all_goals rfl

@[simp] theorem State.urgencyOnEntry_mem (old : ServiceState) : (s.urgencyOnEntry old).mem = s.mem := by
  unfold State.urgencyOnEntry; repeat' split
  all_goals rfl

@[simp] theorem State.urgencyOnEntry_meas (old : ServiceState) : (s.urgencyOnEntry old).meas = s.meas := by
  unfold State.urgencyOnEntry; repeat' split
  all_goals rfl

@[simp] theorem State.urgencyOnEntry_rot (old : ServiceState) : (s.urgencyOnEntry old).rot = s.rot := by
  unfold State.urgencyOnEntry; repeat' split
  all_goals rfl

@[simp] theorem State.urgencyOnEntry_link (old : ServiceState) : (s.urgencyOnEntry old).link = s.link := by
  unfold State.urgencyOnEntry; repeat' split
  all_goals rfl

@[simp] theorem State.urgencyOnEntry_peers (old : ServiceState) : (s.urgencyOnEntry old).peers = s.peers := by
  unfold State.urgencyOnEntry; repeat' split
  all_goals rfl

@[simp] theorem State.urgencyOnEntry_seq (old : ServiceState) : (s.urgencyOnEntry old).seq = s.seq := by
  unfold State.urgencyOnEntry; repeat' split
  all_goals rfl

@[simp] theorem State.urgencyOnEntry_rip (old : ServiceState) : (s.urgencyOnEntry old).rip = s.rip := by
  unfold State.urgencyOnEntry; repeat' split
  all_goals rfl

@[simp] theorem State.urgencyOnEntry_drive (old : ServiceState) : (s.urgencyOnEntry old).drive = s.drive := by
  unfold State.urgencyOnEntry; repeat' split
  all_goals rfl

@[simp] theorem State.urgencyOnEntry_startup (old : ServiceState) : (s.urgencyOnEntry old).startup = s.startup := by
  unfold State.urgencyOnEntry; repeat' split
  all_goals rfl

@[simp] theorem State.urgencyOnEntry_port (old : ServiceState) : (s.urgencyOnEntry old).port = s.port := by
  unfold State.urgencyOnEntry; repeat' split
  all_goals rfl

@[simp] theorem State.urgencyOnEntry_delivered (old : ServiceState) : (s.urgencyOnEntry old).delivered = s.delivered := by
  unfold State.urgencyOnEntry; repeat' split
  all_goals rfl

@[simp] theorem State.urgencyOnEntry_freeCount (old : ServiceState) : (s.urgencyOnEntry old).freeCount = s.freeCount := by
  unfold State.urgencyOnEntry; repeat' split
  all_goals rfl

@[simp] theorem State.urgencyOnEntry_pending (old : ServiceState) : (s.urgencyOnEntry old).pending = s.pending := by
  unfold State.urgencyOnEntry; repeat' split
  all_goals rfl

/-! ### `State.enterState` -/

@[simp] theorem State.enterState_now (new : ServiceState) : (s.enterState new).now = s.now := by
  simp [State.enterState, State.refreshOversub]

@[simp] theorem State.enterState_pins (new : ServiceState) : (s.enterState new).pins = s.pins := by
  simp [State.enterState, State.refreshOversub]

@[simp] theorem State.enterState_mem (new : ServiceState) : (s.enterState new).mem = s.mem := by
  simp [State.enterState, State.refreshOversub]

@[simp] theorem State.enterState_link (new : ServiceState) : (s.enterState new).link = s.link := by
  simp [State.enterState, State.refreshOversub]

@[simp] theorem State.enterState_peers (new : ServiceState) : (s.enterState new).peers = s.peers := by
  simp [State.enterState, State.refreshOversub]

@[simp] theorem State.enterState_seq (new : ServiceState) : (s.enterState new).seq = s.seq := by
  simp [State.enterState, State.refreshOversub]

@[simp] theorem State.enterState_drive (new : ServiceState) : (s.enterState new).drive = s.drive := by
  simp [State.enterState, State.refreshOversub]

@[simp] theorem State.enterState_startup (new : ServiceState) : (s.enterState new).startup = s.startup := by
  simp [State.enterState, State.refreshOversub]

@[simp] theorem State.enterState_port (new : ServiceState) : (s.enterState new).port = s.port := by
  simp [State.enterState, State.refreshOversub]

/-- A change of service state drops the delivered triggers that do not name the new one (R34). -/
@[simp] theorem State.enterState_delivered (new : ServiceState) :
    (s.enterState new).delivered = s.delivered.filter (fun d => d.trigger.names new) := by
  simp [State.enterState, State.refreshOversub, State.stillDelivered]

@[simp] theorem State.enterState_freeCount (new : ServiceState) : (s.enterState new).freeCount = s.freeCount := by
  simp [State.enterState, State.refreshOversub]

@[simp] theorem State.enterState_pending (new : ServiceState) : (s.enterState new).pending = s.pending := by
  simp [State.enterState, State.refreshOversub]

/-- The station record after a change of service state (R39, R107). -/
theorem State.enterState_rot (new : ServiceState) :
    (s.enterState new).rot = { s.rot with
      service := new
      manual := s.rot.manual && !new.outOfRun
      oversub := new.occupies && decide (s.cfg.w < s.occupyingPeers + 1) } := by
  simp [State.enterState, State.refreshOversub]; rfl

/-! ### `State.changeState` -/

@[simp] theorem State.changeState_now (new : ServiceState) : (s.changeState new).now = s.now := by
  simp [State.changeState]

@[simp] theorem State.changeState_pins (new : ServiceState) : (s.changeState new).pins = s.pins := by
  simp [State.changeState]

@[simp] theorem State.changeState_mem (new : ServiceState) : (s.changeState new).mem = s.mem := by
  simp [State.changeState]

@[simp] theorem State.changeState_peers (new : ServiceState) : (s.changeState new).peers = s.peers := by
  simp [State.changeState]

@[simp] theorem State.changeState_seq (new : ServiceState) : (s.changeState new).seq = s.seq := by
  simp [State.changeState]

@[simp] theorem State.changeState_drive (new : ServiceState) : (s.changeState new).drive = s.drive := by
  simp [State.changeState]

@[simp] theorem State.changeState_startup (new : ServiceState) : (s.changeState new).startup = s.startup := by
  simp [State.changeState]

@[simp] theorem State.changeState_port (new : ServiceState) : (s.changeState new).port = s.port := by
  simp [State.changeState]

@[simp] theorem State.changeState_delivered (new : ServiceState) :
    (s.changeState new).delivered = s.delivered.filter (fun d => d.trigger.names new) := by
  simp [State.changeState]

@[simp] theorem State.changeState_freeCount (new : ServiceState) : (s.changeState new).freeCount = s.freeCount := by
  simp [State.changeState]

@[simp] theorem State.changeState_pending (new : ServiceState) : (s.changeState new).pending = s.pending := by
  simp [State.changeState]

/-- The station record after a reported change of service state (R39, R107). -/
theorem State.changeState_rot (new : ServiceState) :
    (s.changeState new).rot = { s.rot with
      service := new
      manual := s.rot.manual && !new.outOfRun
      oversub := new.occupies && decide (s.cfg.w < s.occupyingPeers + 1) } := by
  simp [State.changeState, State.enterState_rot]

/-- A request to produce a STATUS is one for the values that stand after it too: it changes none of them (R59). -/
theorem State.requestStatus_asked : StatusAsked s s.requestStatus := by
  have h : ∀ f, (s.link.takeStatus f).linkFault = s.link.linkFault := by
    intro f; unfold Link.takeStatus Link.withUnstarted; repeat' split
    all_goals rfl
  have hc : s.requestStatus.statusContent = s.statusContent := by
    simp [State.statusContent, State.flagsWord, State.requestStatus, State.inService, State.ownFlow, State.boundNow,
      State.cfg, h]
    rfl
  unfold StatusAsked; rw [hc]; rfl

/-- A change of service state asks for the STATUS that tells it (R54). -/
theorem State.changeState_asked (new : ServiceState) : StatusAsked s (s.changeState new) := by
  have h := (s.enterState new).requestStatus_asked
  unfold StatusAsked at h ⊢
  simpa [State.changeState] using h

/-! ### `State.claimDiscarded` -/

@[simp] theorem State.claimDiscarded_now (n : Nat) : (s.claimDiscarded n).now = s.now := by
  unfold State.claimDiscarded; repeat' split
  all_goals rfl

@[simp] theorem State.claimDiscarded_pins (n : Nat) : (s.claimDiscarded n).pins = s.pins := by
  unfold State.claimDiscarded; repeat' split
  all_goals rfl

@[simp] theorem State.claimDiscarded_mem (n : Nat) : (s.claimDiscarded n).mem = s.mem := by
  unfold State.claimDiscarded; repeat' split
  all_goals rfl

@[simp] theorem State.claimDiscarded_meas (n : Nat) : (s.claimDiscarded n).meas = s.meas := by
  unfold State.claimDiscarded; repeat' split
  all_goals rfl

@[simp] theorem State.claimDiscarded_cond (n : Nat) : (s.claimDiscarded n).cond = s.cond := by
  unfold State.claimDiscarded; repeat' split
  all_goals rfl

@[simp] theorem State.claimDiscarded_link (n : Nat) : (s.claimDiscarded n).link = s.link := by
  unfold State.claimDiscarded; repeat' split
  all_goals rfl

@[simp] theorem State.claimDiscarded_peers (n : Nat) : (s.claimDiscarded n).peers = s.peers := by
  unfold State.claimDiscarded; repeat' split
  all_goals rfl

@[simp] theorem State.claimDiscarded_seq (n : Nat) : (s.claimDiscarded n).seq = s.seq := by
  unfold State.claimDiscarded; repeat' split
  all_goals rfl

@[simp] theorem State.claimDiscarded_rip (n : Nat) : (s.claimDiscarded n).rip = s.rip := by
  unfold State.claimDiscarded; repeat' split
  all_goals rfl

@[simp] theorem State.claimDiscarded_drive (n : Nat) : (s.claimDiscarded n).drive = s.drive := by
  unfold State.claimDiscarded; repeat' split
  all_goals rfl

@[simp] theorem State.claimDiscarded_startup (n : Nat) : (s.claimDiscarded n).startup = s.startup := by
  unfold State.claimDiscarded; repeat' split
  all_goals rfl

@[simp] theorem State.claimDiscarded_port (n : Nat) : (s.claimDiscarded n).port = s.port := by
  unfold State.claimDiscarded; repeat' split
  all_goals rfl

@[simp] theorem State.claimDiscarded_delivered (n : Nat) : (s.claimDiscarded n).delivered = s.delivered := by
  unfold State.claimDiscarded; repeat' split
  all_goals rfl

@[simp] theorem State.claimDiscarded_freeCount (n : Nat) : (s.claimDiscarded n).freeCount = s.freeCount := by
  unfold State.claimDiscarded; repeat' split
  all_goals rfl

@[simp] theorem State.claimDiscarded_pending (n : Nat) : (s.claimDiscarded n).pending = s.pending := by
  unfold State.claimDiscarded; repeat' split
  all_goals rfl

/-! ### `State.offer` -/

@[simp] theorem State.offer_now (f : Frame) : (s.offer f).now = s.now := by
  unfold State.offer; split
  · rfl
  · cases f <;> simp [State.discardNotice]

@[simp] theorem State.offer_pins (f : Frame) : (s.offer f).pins = s.pins := by
  unfold State.offer; split
  · rfl
  · cases f <;> simp [State.discardNotice]

@[simp] theorem State.offer_mem (f : Frame) : (s.offer f).mem = s.mem := by
  unfold State.offer; split
  · rfl
  · cases f <;> simp [State.discardNotice]

@[simp] theorem State.offer_meas (f : Frame) : (s.offer f).meas = s.meas := by
  unfold State.offer; split
  · rfl
  · cases f <;> simp [State.discardNotice]

@[simp] theorem State.offer_cond (f : Frame) : (s.offer f).cond = s.cond := by
  unfold State.offer; split
  · rfl
  · cases f <;> simp [State.discardNotice]

@[simp] theorem State.offer_peers (f : Frame) : (s.offer f).peers = s.peers := by
  unfold State.offer; split
  · rfl
  · cases f <;> simp [State.discardNotice]

@[simp] theorem State.offer_seq (f : Frame) : (s.offer f).seq = s.seq := by
  unfold State.offer; split
  · rfl
  · cases f <;> simp [State.discardNotice]

@[simp] theorem State.offer_rip (f : Frame) : (s.offer f).rip = s.rip := by
  unfold State.offer; split
  · rfl
  · cases f <;> simp [State.discardNotice]

@[simp] theorem State.offer_drive (f : Frame) : (s.offer f).drive = s.drive := by
  unfold State.offer; split
  · rfl
  · cases f <;> simp [State.discardNotice]

@[simp] theorem State.offer_startup (f : Frame) : (s.offer f).startup = s.startup := by
  unfold State.offer; split
  · rfl
  · cases f <;> simp [State.discardNotice]

@[simp] theorem State.offer_port (f : Frame) : (s.offer f).port = s.port := by
  unfold State.offer; split
  · rfl
  · cases f <;> simp [State.discardNotice]

@[simp] theorem State.offer_delivered (f : Frame) : (s.offer f).delivered = s.delivered := by
  unfold State.offer; split
  · rfl
  · cases f <;> simp [State.discardNotice]

@[simp] theorem State.offer_freeCount (f : Frame) : (s.offer f).freeCount = s.freeCount := by
  unfold State.offer; split
  · rfl
  · cases f <;> simp [State.discardNotice]

@[simp] theorem State.offer_pending (f : Frame) : (s.offer f).pending = s.pending := by
  unfold State.offer; split
  · rfl
  · cases f <;> simp [State.discardNotice]

/-! ### `State.withdrawClaim` -/

@[simp] theorem State.withdrawClaim_now : (s.withdrawClaim).now = s.now := by
  unfold State.withdrawClaim; split <;> rfl

@[simp] theorem State.withdrawClaim_pins : (s.withdrawClaim).pins = s.pins := by
  unfold State.withdrawClaim; split <;> rfl

@[simp] theorem State.withdrawClaim_mem : (s.withdrawClaim).mem = s.mem := by
  unfold State.withdrawClaim; split <;> rfl

@[simp] theorem State.withdrawClaim_meas : (s.withdrawClaim).meas = s.meas := by
  unfold State.withdrawClaim; split <;> rfl

@[simp] theorem State.withdrawClaim_cond : (s.withdrawClaim).cond = s.cond := by
  unfold State.withdrawClaim; split <;> rfl

@[simp] theorem State.withdrawClaim_peers : (s.withdrawClaim).peers = s.peers := by
  unfold State.withdrawClaim; split <;> rfl

@[simp] theorem State.withdrawClaim_seq : (s.withdrawClaim).seq = s.seq := by
  unfold State.withdrawClaim; split <;> rfl

@[simp] theorem State.withdrawClaim_rip : (s.withdrawClaim).rip = s.rip := by
  unfold State.withdrawClaim; split <;> rfl

@[simp] theorem State.withdrawClaim_drive : (s.withdrawClaim).drive = s.drive := by
  unfold State.withdrawClaim; split <;> rfl

@[simp] theorem State.withdrawClaim_startup : (s.withdrawClaim).startup = s.startup := by
  unfold State.withdrawClaim; split <;> rfl

@[simp] theorem State.withdrawClaim_port : (s.withdrawClaim).port = s.port := by
  unfold State.withdrawClaim; split <;> rfl

@[simp] theorem State.withdrawClaim_delivered : (s.withdrawClaim).delivered = s.delivered := by
  unfold State.withdrawClaim; split <;> rfl

@[simp] theorem State.withdrawClaim_freeCount : (s.withdrawClaim).freeCount = s.freeCount := by
  unfold State.withdrawClaim; split <;> rfl

@[simp] theorem State.withdrawClaim_pending : (s.withdrawClaim).pending = s.pending := by
  unfold State.withdrawClaim; split <;> rfl

/-! ### `BlowerRec.checkFeedback` -/

/-- The blower faults where its timer runs out, with the output on or ended in this second, and where feedback once seen
is lost with the output on (R156, R119). -/
theorem BlowerRec.checkFeedback_faults (pressure ended : Bool) (b : BlowerRec) :
    (b.checkFeedback pressure ended).2
      = ((b.output || ended) && b.runsOut pressure || b.output && !pressure && b.feedbackSeen) := by
  unfold BlowerRec.checkFeedback
  cases b.output <;> cases ended <;> cases pressure <;> cases b.feedbackSeen <;> cases h : b.runsOut _ <;> simp_all

/-- A check that finds no fault reads the switch and counts while the output is on, and else changes nothing (R156). -/
theorem BlowerRec.checkFeedback_record (pressure ended : Bool) (b : BlowerRec)
    (h : (b.checkFeedback pressure ended).2 = false) :
    (b.checkFeedback pressure ended).1
      = if b.output then if pressure then b.see else { b with feedbackTimer := b.feedbackTimer + 1 } else b := by
  revert h; unfold BlowerRec.checkFeedback; repeat' split
  all_goals simp_all

/-! ### The working copy and the arrival of a panel request -/

theorem State.cfg_of_working {s : State} {w : WorkingCopy} (h : s.startup.working = some w) : s.cfg = w.params := by
  simp [State.cfg, h]

theorem State.cfg_of_no_working {s : State} (h : s.startup.working = none) : s.cfg = Params.ofFields fun _ => 0 := by
  simp [State.cfg, h]

/-- In SAFE a request is discarded (R160). -/
theorem State.panelRequest_safe {s : State} (k : ReqKind) (tag : BitVec 4) (h : s.startup.stage = .safe) :
    s.panelRequest k tag = s := by
  simp [State.panelRequest, h]

/-- Elsewhere it arrives with no partial assembly left (R173, R174). -/
theorem State.panelRequest_arrives {s : State} (k : ReqKind) (tag : BitVec 4) (h : s.startup.stage ≠ .safe) :
    s.panelRequest k tag = (s.setPort { s.port with assembly := none }).arrive ⟨k, tag⟩ := by
  simp [State.panelRequest, h]

end Sys2Proof.Machine
end

