-- ==== Sys2Proof/Tests/Slice0.lean ====
section
/-! SUPPORT. Tests: the refusals of WellFormed, one-step examples whose expected values the manual gives (its worked
examples and tables), and for each statement with hypotheses a witness that meets them. -/

open Sys2Proof Sys2Proof.Machine

namespace Sys2Proof.Tests

/-! ## Small states -/

/-- The 43 fields of the manual's worked examples: six stations, W = 1, S = 10, 60 m², R_max 125, H_t 240, T_max 4320,
T_min 240, Q_thr 900, and the phase times of the bound example. -/
def fields : List Nat :=
  [6, 1, 10, 60, 125, 240, 4320, 240, 900, 150, 400, 100, 0, 300, 0, 2000, 0, 400, 0, 500, 0, 1000, 50, 300, 250, 150,
    220, 600, 180, 20, 10, 240, 480, 300, 900, 600, 2400, 60, 30, 60, 60, 60, 60]

def field (i : Nat) : Nat := fields.getD (i - 1) 0

def params : Params := Params.ofFields field

/-- The record of those fields. -/
def record : List Byte := (fields.map (natBytes 2)).flatten ++ List.replicate 10 0

/-- Station 3 running in a service state. -/
def at_ (x : ServiceState) : State :=
  { State.reset with
    now := 1000
    startup := { Startup.start with stage := .running, number := some 3, working := some ⟨params, record⟩ }
    rot := { Rotation.start with service := x }
    link := { Link.start with receiver := true, statusTick := some 9 } }

/-- All valves confirmed at the positions a phase or a state has them in. -/
def posed (opens : List Valve) (s : State) : State :=
  allValves.foldl (fun t v => t.setValve v { ValveRec.start with
    pos := if v ∈ opens then .opened else .closed
    commanded := some (if v ∈ opens then .openEnd else .closedEnd) }) s

/-- Station 3 delivering water. -/
def filtering : State := posed [.inf, .eff] (at_ .filtering)

/-- A phase of a wash, running in its pattern. -/
def washing (a : Activity) (opens : List Valve) : State :=
  let s := posed opens (at_ .washing)
  { s with
    seq := { Sequencer.start with activity := a, subStep := some .running }
    rip := { s.rip with unverified := true } }

/-- A valve of a station given a record. -/
def withValve (v : Valve) (f : ValveRec → ValveRec) (s : State) : State := s.setValve v (f (s.valve v))

/-- What a command leaves. -/
def after (c : Instr) (s : State) : State :=
  match exec c s with
  | .next t => t
  | .fault _ => s
  | .refused _ => s

/-- CH1 with a value and a status. -/
def turbidity (x : ChannelStatus) (s : State) : State :=
  { s with meas := { s.meas with ch1 := { ChannelRec.start with status := x, filtered := some 96 } } }

/-! ## WellFormed and the decoder -/

theorem test_short_record_refused : (Instr.writeConfig 1 (List.replicate 95 0)).wellFormed = false := by decide
theorem test_long_record_refused : (Instr.writeConfig 1 (List.replicate 97 0)).wellFormed = false := by decide
theorem test_short_frame_refused : (Instr.frameReceived [0x13, 0, 0]).wellFormed = false := by decide
theorem test_long_frame_refused : (Instr.frameReceived (List.replicate 17 0)).wellFormed = false := by decide
theorem test_no_word_spells_a_command : decodeTableWord 8 0x13 = none := by decide

/-! ## Encodings -/

set_option maxRecDepth 100000 in
/-- R57: "Over the nine bytes whose values are 31 to 39 hexadecimal in that order, this check gives 29B1". -/
theorem test_check_of_nine_bytes : crc16 [0x31, 0x32, 0x33, 0x34, 0x35, 0x36, 0x37, 0x38, 0x39] = 0x29B1#16 := by
  decide

/-- R180: a CLAIM from station 3 leads with 23; R181: claim flags, six payload bytes and more. -/
theorem test_yield_from_station_three : ((Frame.yield 41).bytes 3).take 3 = [0x33, 0x01, 41] := by decide

/-- R184: "N_g stands at bytes 0..1, S at 4..5, T_min at 14..15, CH4 hi at 42..43, L_resume at 52..53, T_rmax at 72..73
and the T_travel of FTW at 84..85". -/
theorem test_places_of_the_fields :
    (let p := Params.ofFields (Memory.field [(1, 7), (5, 9), (15, 11), (43, 13), (53, 15), (73, 17), (84, 1), (85, 19)])
     [p.nG, p.s, p.tMin, p.hi4, p.lResume, p.tRmax, p.trFtw] = [7, 9, 11, 13, 15, 17, 275]) := by decide

/-! ## Measurement -/

/-- 01, Scaling and Averaging: 132 cm before and after code 1906. -/
theorem test_scaling_example :
    filteredValue 0 300 [1880, 1885, 1890, 1892, 1895, 1888, 1893, 1897] = 132
      ∧ filteredValue 0 300 (pushWindow [1880, 1885, 1890, 1892, 1895, 1888, 1893, 1897] 1906) = 132 := by decide

/-- 01, Scaling and Averaging: clamping and a scale that does not begin at 0. -/
theorem test_clamping_examples :
    filteredValue 0 1000 [3450, 3450, 3450, 3450, 3470, 3470, 3470, 3470] = 1000
      ∧ filteredValue 0 4000 [640, 640, 640, 640, 640, 640, 640, 640] = 0
      ∧ filteredValue 20 320 [1000, 1000, 1000, 1000, 1000, 1000, 1000, 1000] = 54 := by decide

/-- 01, A Broken Level Loop: two invalid samples change no status, the third in a row faults, the value is held. -/
theorem test_broken_level_loop :
    (let r : ChannelRec := ⟨List.replicate 8 2100, some 207, .valid, 0, 8⟩
     let two := (r.take 0 400 4095).take 0 400 4095
     let three := (r.take 0 400 0).take 0 400 0 |>.take 0 400 4095
     two.status = .valid ∧ two.invalidRun = 2 ∧ (two.take 0 400 2104).filtered = some 207
       ∧ three.status = .fault ∧ three.filtered = some 207) := by decide

/-- A sample counts only in its own channel. -/
theorem test_sample_counts_in_its_channel :
    (after (.sample .ch3 700) filtering).meas.ch3.validRun = 1
      ∧ (after (.sample .ch3 700) filtering).meas.ch2.validRun = 0 := by decide

/-! ## Condition -/

/-- A filtering station at a run time, a head loss and a decision value, baseline 42 cm. -/
def running (t h u : Nat) : State :=
  { filtering with
    cond := { Condition.start with runTime := t, baseline := 42 }
    meas := { Measurement.start with
      ch0 := { ChannelRec.start with status := .valid, filtered := some h }, decision := some u } }

/-- 02, Urgency Through a Run, at 3600 and at 4212 minutes. -/
theorem test_urgency_through_a_run :
    (let c := (after .conditionSecond (running 3600 198 96)).cond
     let d := (after .conditionSecond (running 4212 215 106)).cond
     c.cH = 787 ∧ c.cT = 333 ∧ c.cU = 640 ∧ c.urgency = 787 ∧ d.cH = 873 ∧ d.cT = 900 ∧ d.cU = 706 ∧ d.urgency = 900) :=
  by decide

/-- 02, the same run at 4150 minutes: the queue trigger, and the station QUEUED once it is taken. -/
theorem test_queue_trigger_at_4150 :
    (let s := after .conditionSecond (running 4150 221 105)
     s.delivered = [⟨.queueTrigger, .filtering⟩] ∧ (after .queueTrigger s).rot.service = .queued) := by decide

/-- 02, The Cap on the Baseline: 235 cm against H_t = 240 is captured as 220 cm, and 236 cm then gives 800. -/
theorem test_cap_on_the_baseline :
    (let s := withValve .ftw (fun r => { r with pos := .closing, drive := .energized }) (posed [.inf] (at_ .ripening))
     let t := after (.targetSwitchMade .ftw) { s with
       rip := { s.rip with step := .ending }
       meas := { s.meas with ch0 := { ChannelRec.start with filtered := some 235 } } }
     t.cond.baseline = 220 ∧ t.rot.service = .filtering
       ∧ (after .conditionSecond { t with
         meas := { t.meas with ch0 := { ChannelRec.start with filtered := some 236 } } }).cond.cH = 800) := by decide

/-! ## The peer table -/

/-- The table of 05, The Quantities at One Moment. -/
def galleryPeers : List PeerEntry :=
  [⟨0, .fresh, 995, some 10, .filtering, some 0x8000, 640, 2800, some 175, none, none⟩,
    ⟨1, .stale, 960, some 10, .queued, some 0x8000, 950, 4300, some 182, none, none⟩,
    ⟨2, .fresh, 995, some 10, .queued, some 0x4000, 1000, 3700, some 0, none, none⟩,
    ⟨4, .absent, 800, some 10, .filtering, some 0x8800, 700, 3000, some 178, none, none⟩,
    ⟨5, .fresh, 995, some 10, .washing, some 0, 0, 3901, some 0, some 3950, none⟩]

/-- Station 3 of that gallery. -/
def contender : State :=
  let s := posed [.inf, .eff] (at_ .queued)
  { s with
    cond := { s.cond with urgency := 920, runTime := 4100 }
    meas := { s.meas with ch3 := { ChannelRec.start with status := .valid, filtered := some 180 } }
    peers := galleryPeers }

theorem test_quantities_at_one_moment :
    contender.occupyingPeers = 1 ∧ contender.washingPeers = 1 ∧ contender.outrankingClaimants = 0
      ∧ contender.aheadPeers = 1 ∧ contender.nOn = 3 ∧ contender.sumFlow = 715 := by decide

set_option maxRecDepth 100000 in
/-- 05, the STATUS of station 4 that follows: N_on 4, ΣF 718. -/
theorem test_status_of_station_four :
    (let s := after (.frameReceived (Frame.bytes 4 (.status ⟨.filtering, 0, 0x8800, 700, 181, 3000, 10, 0⟩))) contender
     s.nOn = 4 ∧ s.sumFlow = 718 ∧ s.peerHold = true) := by decide

set_option maxRecDepth 100000 in
/-- 05, One Peer's Entry Through a Claim, at 505, 512 and 550. -/
theorem test_one_peer_through_a_claim :
    (let s505 := after (.frameReceived (Frame.bytes 5 (.status ⟨.claiming, 0, 0x8000, 934, 170, 3900, 10, 3418⟩)))
       { at_ .filtering with now := 505 }
     let s512 := after (.frameReceived (Frame.bytes 5 (.yield 41))) { s505 with now := 512 }
     let s550 := after (.frameReceived (Frame.bytes 5 (.status ⟨.washing, 1, 0x8000, 0, 170, 3901, 10, 3400⟩)))
       { s512 with now := 550 }
     (s505.peer 5).map PeerEntry.occupancyUntil = some (some 3923)
       ∧ (s512.peer 5).map PeerEntry.state = some .queued
       ∧ (s550.peer 5).map PeerEntry.occupancyUntil = some (some 3950)) := by decide

/-- 05, the same entry falling silent: STALE at 581, ABSENT from 651, its slot lapsing at 3951. -/
theorem test_silent_peer_ages :
    (let e : PeerEntry := ⟨5, .fresh, 550, some 10, .washing, some 0x8000, 0, 3901, some 170, some 3950, none⟩
     e.aged 580 = .fresh ∧ e.aged 581 = .stale ∧ ({ e with presence := .stale }).aged 650 = .stale
       ∧ ({ e with presence := .stale }).aged 651 = .absent ∧ e.lapses 3950 = false ∧ e.lapses 3951 = true) := by decide

/-! ## Admission -/

/-- The gallery of 06, The Rate Test, with the own flow and the flow of one peer as parameters. -/
def rateGallery (own peer : Nat) : State :=
  let s := posed [.inf, .eff] (at_ .queued)
  let e (n flow : Nat) : PeerEntry := ⟨n, .fresh, 995, some 10, .filtering, some 0x8000, 0, 0, some flow, none, none⟩
  { s with
    meas := { s.meas with ch3 := { ChannelRec.start with status := .valid, filtered := some own } }
    peers := [e 0 175, e 1 182, e 2 178, e 4 peer] }

theorem test_rate_test :
    (rateGallery 180 185).ratePasses 1 = false ∧ (rateGallery 180 185).predicted 1 = some 135
      ∧ (rateGallery 80 185).ratePasses 1 = true ∧ (rateGallery 80 185).predicted 1 = some 120
      ∧ (rateGallery 180 185).ratePasses 2 = false ∧ (rateGallery 180 185).predicted 2 = some 180 := by decide

/-! ## The wash bound (07, The Bound Through a Wash) -/

def place (a : Activity) (x : SubStep) (elapsed : Nat) : Sequencer :=
  { Sequencer.start with activity := a, subStep := some x, phaseElapsed := elapsed }

theorem test_bound_through_a_wash :
    params.fullBound = 3410 ∧ params.washBound (place .lower .closing 0) = 3410
      ∧ params.washBound (place .lower .running 400) = 2888 ∧ params.washBound (place .air .closing 0) = 2688
      ∧ params.washBound (place .air .running 0) = 2566 ∧ params.washBound (place .airWater .opening 0) = 2286
      ∧ params.washBound (place .rinse .closing 0) = 1924 ∧ params.washBound (place .refill .running 0) = 900 := by
  decide

/-! ## Valves and blower -/

/-- 09, An Isolation Reversed by RETURN, at 12.4: INF's close is reversed into a pause toward open. -/
theorem test_isolation_reversed :
    (let s := withValve .inf (fun r => { r with
         pos := .closing, commanded := some .closedEnd, drive := .energized, timer := 12, waiting := [.rotation] })
       (posed [] (at_ .standby))
     let r := (after (.returnFilter 1) s).valve .inf
     r.pos = .opening ∧ r.drive = .pause ∧ r.timer = 0 ∧ r.commanded = some .openEnd ∧ r.waiting = [.sequencer]) := by
  decide

/-- 09, the completion that follows: a capture of 11 s, not slow against 40 s. -/
theorem test_open_completes :
    (let s := withValve .inf (fun r => { r with
         pos := .opening, commanded := some .openEnd, drive := .energized, timer := 11, waiting := [.sequencer] })
       (posed [] (at_ .ripening))
     let r := (after (.targetSwitchMade .inf) { s with rip := { s.rip with step := .opening } }).valve .inf
     r.pos = .opened ∧ r.lastTravel = some 11 ∧ r.slow = false ∧ r.waiting = []) := by decide

/-- 09, EFF Drifts in Service: re-driven at 100, faulted and isolated at 140. -/
theorem test_eff_drifts :
    (let s := after (.drift .eff) { filtering with now := 100 }
     let t := after (.drift .eff) (withValve .eff (fun r => { r with pos := .opened, drive := .idle, redrive := false })
       { s with now := 140 })
     (s.valve .eff).pos = .opening ∧ (s.valve .eff).lastDrift = some 100 ∧ s.rot.service = .filtering
       ∧ (t.valve .eff).faultKind = some .drift ∧ t.rot.service = .isolated ∧ t.drive.valveFault = true
       ∧ (t.valve .eff).commanded = some .closedEnd) := by decide

/-- R149: "Both limit switches of one valve made at once is a feedback fault", the one at the end the valve left too. -/
theorem test_closed_switch_made_all_the_way :
    (let r := (after (.limitSwitchChange .eff .openEnd true)
       (withValve .eff (fun r => { r with pos := .opening, commanded := some .openEnd, drive := .energized, timer := 11 })
         (let s := posed [] (at_ .standby)
          { s with pins := { s.pins with eff := ⟨true, false⟩ } }))).valve .eff
     r.pos = .fault ∧ r.faultKind = some .feedback) := by decide

/-- R153: a valve that faulted STUCK without leaving its closed switch reads CLOSED at the clear request. -/
theorem test_stuck_at_closed_reads_closed :
    (let s := after (.travelTimeout .eff)
       (withValve .eff (fun r => { r with pos := .opening, commanded := some .openEnd, drive := .energized, timer := 29 })
         (let s := posed [] (at_ .standby)
          { s with pins := { s.pins with eff := ⟨true, false⟩ } }))
     (s.valve .eff).faultKind = some .stuck ∧ ((after (.returnFilter 1) s).valve .eff).pos = .closed
       ∧ ((after (.returnFilter 1) s).valve .eff).faultKind = none) := by decide

/-- 09, A Blower Without Feedback: the timer at 5 keeps its count through the off-period. -/
theorem test_blower_without_feedback :
    (let s := (washing .air [.air]).setBlower ⟨.pulsed, false, some ⟨false, 19⟩, 5, false, false⟩
     let t := after .pulseOffEnd s
     t.drive.blower.output = true ∧ t.drive.blower.feedbackTimer = 5 ∧ t.drive.blower.pulse = some ⟨true, 0⟩) := by decide

/-- R119: AIR's end taken first, with T_aw = 0; the blower fault of the same second sets air-skipped in RINSE's entry. -/
theorem test_end_of_air_before_the_fault :
    (let s := { (washing .air [.air]).setBlower ⟨.pulsed, true, some ⟨true, 3⟩, 9, false, false⟩ with
       seq := { Sequencer.start with activity := .air, subStep := some .running, blowerOn := 179 }
       startup := { (washing .air [.air]).startup with working := some ⟨{ params with tAw := 0 }, record⟩ } }
     let t := after .sequenceSecond s
     let u := after .driveSecond t
     t.seq.activity = .rinse ∧ t.drive.blower.output = false ∧ t.seq.airSkipped = false
       ∧ u.seq.airSkipped = true ∧ u.drive.blower.fault = true ∧ u.seq.activity = .rinse
       ∧ (after .driveSecond { t with now := t.now + 1 }).drive.blower.fault = false) := by decide

/-- R135: with a fault left on EFF the ripening entry closes WW, cleared to OPEN, before the report isolates. -/
theorem test_left_fault_after_the_entry :
    (let s := withValve .ww (fun r => { r with pos := .fault, faultKind := some .stuck })
       (withValve .eff (fun r => { r with pos := .fault, faultKind := some .feedback })
         (let s := posed [] (at_ .isolated)
          { s with pins := { s.pins with eff := ⟨true, true⟩, ww := ⟨false, true⟩ } }))
     let t := after (.returnFilter 1) s
     t.rot.service = .isolated ∧ t.rip.step = .idle ∧ (t.valve .ww).pos = .closing ∧ (t.valve .eff).pos = .fault) := by
  decide

/-- R136: "confirmed closed before FTW is requested open": with a fault left on EFF nothing is requested open. -/
theorem test_left_fault_opens_nothing :
    (let s := withValve .eff (fun r => { r with pos := .fault, faultKind := some .feedback })
       (let s := posed [] (at_ .standby)
        { s with pins := { s.pins with eff := ⟨true, true⟩ } })
     let t := after (.returnFilter 1) s
     t.rot.service = .isolated ∧ (t.valve .inf).pos = .closed ∧ (t.valve .ftw).pos = .closed
       ∧ (t.valve .ftw).commanded = some .closedEnd) := by decide

/-! ## Start-up and the port -/

set_option maxRecDepth 100000 in
/-- R185: "its first LOAD fails the CRC check with config-fault index 0 until a record has been written". -/
theorem test_first_load_fails :
    (after .powerOn State.reset).startup.stage = .configFault
      ∧ (after .powerOn State.reset).startup.faultIndex = some 0 := by decide

set_option maxRecDepth 100000 in
/-- R168, R162: a written record is loaded, and N_g = 6 stands in the working copy. -/
theorem test_written_record_is_loaded :
    (let s := after .powerOn { State.reset with mem := Memory.writeRecord [] record, pins := { Pins.start with straps := 3 } }
     s.startup.stage = .inputs ∧ s.cfg.nG = 6 ∧ s.seq.fullBound = 3410 ∧ s.startup.number = some 3) := by decide

/-- 11, A Burst from the Panel, up to the refusal of READ-PEER 3. -/
theorem test_burst_from_the_panel :
    (let s := after (.readPeer 3 4) (after (.takeOut 2) (after (.readStation 1) filtering))
     let t := after .answerSent s
     s.rot.service = .filtering ∧ s.port.owed = [⟨.readPeer 4, 3⟩]
       ∧ t.port.answer = some ((Reply.refused .busy).toAnswer ⟨.readPeer 4, 3⟩)
       ∧ (after .owedRefusalSent t).rot.service = .standby) := by decide

/-- R169: the lock code, and LOCKED in force at once. -/
theorem test_lock_is_written :
    (let s := after .lockWriteEnd (after (.lockConfig 1) filtering)
     s.mem = [(127, 0)] ∧ s.startup.locked = true) := by decide

/-! ## The link -/

/-- R68: the eighth abandoned attempt discards the frame and sets link-fault. -/
theorem test_eighth_attempt :
    (let s := after .attemptAbandoned { filtering with
       link := { filtering.link with queue := [.yield 1], attempt := some 8 } }
     s.link.queue = [] ∧ s.link.linkFault = true ∧ s.link.attempt = none) := by decide

set_option maxRecDepth 100000 in
/-- R73: a frame with the own number sets duplicate-address and empties the queue. -/
theorem test_own_number_heard :
    (let s := after (.frameReceived (Frame.bytes 3 (.yield 1))) { filtering with
       link := { filtering.link with queue := [.yield 1] } }
     s.link.dupAddress = true ∧ s.link.queue = []) := by decide


set_option maxRecDepth 100000 in
/-- R178: a record written over the loaded one that differs in byte 95 alone is not equal to the working copy. -/
theorem test_reserved_byte_differs :
    (let loaded : State := { filtering with mem := Memory.writeRecord [] record }
     let other : State := { loaded with mem := Memory.writeRecord [] (record.take 95 ++ [1]) }
     loaded.recordMatches = some true ∧ other.recordMatches = some false) := by decide

/-- R173: a whole request leaves no partial assembly behind. -/
theorem test_request_clears_the_assembly :
    (after (.hold 1) { filtering with port := { filtering.port with assembly := some [0x10, 0] } }).port.assembly = none := by
  decide

/-- R56: the lead 14 is a low start bit, 00101000 as the line has it, the marker set, a high stop bit. -/
theorem test_bits_of_a_character :
    LineChar.bits ⟨0x14, true, false⟩ = 0b11000101000#11 ∧ readChar 0b11000101000#11 = some ⟨0x14, true, false⟩
      ∧ readChar 0b00000101000#11 = some ⟨0x14, false, true⟩ ∧ readChar 0b11000101001#11 = none := by decide

/-- R67, the table of gaps. -/
theorem test_table_of_gaps :
    ([0, 1, 7, 8, 15].map (accessGap .claim) = [24, 26, 38, 40, 54])
      ∧ [0, 1, 7, 8, 15].map (accessGap .status) = [56, 58, 70, 72, 86] := by decide

set_option maxRecDepth 100000 in
/-- R68: the lead of a YIELD of station 3 echoes as driven; with its marker bit lost the attempt is abandoned. -/
theorem test_echo_of_the_lead :
    (let s : State := { filtering with link := { filtering.link with queue := [.yield 41], attempt := some 1 } }
     (after (.receivedCharacter 0b11001100110) s).link.echoed = 1
       ∧ (after (.receivedCharacter 0b10001100110) s).link.accessWait = some 0
       ∧ (after (.receivedCharacter 0b10001100110) s).link.attempt = some 1) := by decide

/-- R67, R71: the line quiet for more than 22 bit times within a frame is counted by a wait that started with it, and by
none that started later. -/
theorem test_quiet_line_counts :
    (let s (started : Bool) : State := { filtering with
       link := { filtering.link with
         queue := [.yield 41], assembly := some [0x14], accessWait := some 0, waitFromQuiet := started } }
     (after .assemblyQuietTimeout (s true)).link.accessWait = some 23
       ∧ (after .assemblyQuietTimeout (s true)).link.assembly = none
       ∧ (after .assemblyQuietTimeout (s false)).link.accessWait = some 0) := by decide

/-- R34: a queue trigger that waits is dropped when TAKE-OUT leaves FILTERING, a hard breakthrough stays on the way to
QUEUED. -/
theorem test_triggers_dropped_with_their_states :
    (let s : State := { filtering with delivered := [⟨.queueTrigger, .filtering⟩, ⟨.hardBreakthrough, .filtering⟩] }
     (after (.takeOut 1) s).delivered = []
       ∧ (after .queueTrigger s).delivered = [⟨.hardBreakthrough, .filtering⟩]) := by decide

/-- R177, R112: in CONFIG-FAULT the counts of the wash show their start values. -/
theorem test_config_fault_shows_start_values :
    (let s : State := { State.reset with
       startup := { Startup.start with stage := .configFault, number := some 3, faultIndex := some 0 } }
     fieldAt s.stationData 75 2 = 0 ∧ fieldAt s.stationData 77 2 = 0 ∧ fieldAt s.stationData 79 2 = 0) := by decide

/-- 10, What the Survey Finds, RINSE: the last close of recovery ends it, QUEUED and held. -/
theorem test_recovery_ends :
    (let s := withValve .drn (fun r => { r with pos := .closing, drive := .energized, waiting := [.startup] })
       (posed [] (at_ .start))
     let t := after (.targetSwitchMade .drn) { s with
       startup := { s.startup with stage := .recovery }
       rot := { s.rot with held := true, recovery := true } }
     t.startup.stage = .running ∧ t.rot.service = .queued ∧ t.rot.held = true ∧ t.cond.urgency = 1000) := by decide
/-! ## Witnesses: concrete states that meet the hypotheses of each statement, clause by clause -/

def shut : State := posed [] (at_ .standby)
def drifted : State := posed [.inf, .drn] (at_ .standby)
def stuck : State :=
  withValve .eff (fun r => { r with pos := .fault, faultKind := some .feedback })
    { shut with pins := { shut.pins with eff := ⟨true, true⟩ } }
def heldQueued : State := { posed [] (at_ .queued) with rot := { (at_ .queued).rot with held := true } }
def holding (s : State) : State := { s with rot := { s.rot with holdAsserted := true } }
def unconfigured : State :=
  { State.reset with startup := { Startup.start with stage := .configFault, number := some 3, faultIndex := some 0 } }
def listening (s : State) (x : Selection) : State :=
  { s with
    startup := { s.startup with stage := .listen, listenElapsed := 29, selection := some x }
    rot := { s.rot with service := .start } }
/-- FILTERING with three triggers delivered. -/
def waitingTriggers : State :=
  { filtering with
    delivered := [⟨.queueTrigger, .filtering⟩, ⟨.hardBreakthrough, .filtering⟩, ⟨.shortRun, .filtering⟩] }
/-- A frame being assembled and a wait that started as the line went quiet, or later. -/
def quietAfter (started : Bool) : State :=
  { filtering with
    link := { filtering.link with
      queue := [.yield 41], assembly := some [0x14], accessWait := some 5, waitFromQuiet := started } }
def writing : State :=
  { shut with
    startup := { shut.startup with memWrite := .record }
    port := { shut.port with processing := some ⟨.writeConfig record, 1⟩ } }
def locking : State :=
  { shut with
    startup := { shut.startup with memWrite := .lock }
    port := { shut.port with processing := some ⟨.lockConfig, 1⟩ } }
def answering : State :=
  { filtering with port := { filtering.port with processing := some ⟨.readStation, 1⟩, answer := some ⟨1, [], 0⟩ } }
def owing (n : Nat) : State :=
  { answering with
    port := { answering.port with pendingReq := some ⟨.takeOut, 2⟩, owed := List.replicate n ⟨.readPeer 4, 3⟩ } }
def refusing (n : Nat) (r : Option Request) : State :=
  { owing n with port := { (owing n).port with processing := none, pendingReq := r } }
def faulted : State :=
  { filtering with
    meas := { filtering.meas with
      ch1 := ⟨List.replicate 8 900, some 96, .fault, 0, 7⟩, channelFault := true } }
def nearFault (x : ChannelStatus) : State :=
  { filtering with meas := { filtering.meas with ch1 := ⟨List.replicate 8 900, some 96, x, 2, 0⟩ } }
def settling : State :=
  { filtering with meas := { filtering.meas with settling := some 59, decision := some 96 } }
def ripening (b : Basis) (hold : Nat) : State :=
  { posed [.inf, .ftw] (at_ .ripening) with
    rip := ⟨.running, 900, hold, some b, false⟩
    meas := { Measurement.start with decision := some 100 } }
def settlingRipe : State :=
  { ripening .verified 5 with
    meas := { Measurement.start with
      settling := some 59, decision := some 100
      ch1 := { ChannelRec.start with status := .valid, filtered := some 101 } } }
def expiring (b : Basis) : State := { ripening b 5 with rip := ⟨.running, 2399, 5, some b, false⟩ }
def ending : State :=
  withValve .ftw (fun r => { r with pos := .closing, commanded := some .closedEnd, drive := .energized })
    { posed [.inf] (at_ .ripening) with rip := ⟨.ending, 900, 600, some .verified, false⟩ }
def breaking : State :=
  { running 4150 42 400 with
    meas := { (running 4150 42 400).meas with ch1 := { ChannelRec.start with status := .valid, filtered := some 400 } } }
def early : State := { running 100 221 96 with cond := { (running 100 221 96).cond with closedWindow := true } }
def windowEnd : State := { running 240 42 96 with cond := { (running 240 42 96).cond with closedWindow := true } }
def lastMinute : State :=
  { windowEnd with cond := { windowEnd.cond with runTime := 239, runSeconds := 59 } }
def queued (q : List Frame) (attempt : Option Nat) (dup : Bool) : State :=
  { filtering with link := { filtering.link with queue := q, attempt := attempt, dupAddress := dup } }
def due : State :=
  let s := queued [.status ⟨.filtering, 0, 0x8000, 3, 30, 0, 5, 100⟩] (some 1) false
  { s with link := { s.link with statusDue := true } }
/-- QUEUED with a claim that waits to be sent. -/
def waitingClaim : State :=
  let s := posed [.inf, .eff] (at_ .queued)
  { s with
    rot := { s.rot with serial := 7, outstanding := some 7, claimed := some ⟨930, 3900⟩ }
    link := { s.link with queue := [.claim ⟨930, 3900, false, false, 7, 3430⟩] } }
/-- The same with its CLAIM being sent. -/
def wanting (dup : Bool) : State :=
  { waitingClaim with link := { waitingClaim.link with attempt := some 1, dupAddress := dup } }
/-- The same behind a peer whose claim outranks it. -/
def outranked : State :=
  { wanting false with
    peers := [⟨4, .fresh, 995, some 10, .claiming, some 0xc000, 950, 4000, some 170, some 3950,
      some ⟨some 42, 950, 4000, true, false⟩⟩] }
def claiming (peers : List PeerEntry) : State :=
  let s := posed [.inf, .eff] (at_ .claiming)
  { s with
    rot := { s.rot with
      serial := 7, claimed := some ⟨930, 3900⟩, claimFlags := some ⟨false, false⟩, settleDeadline := some 1000 }
    peers := peers }
def ready : State :=
  { claiming (rateGallery 180 185).peers with
    meas := { Measurement.start with ch4 := { ChannelRec.start with status := .valid, filtered := some 250 } } }
def following : State :=
  { filtering with
    peers := [⟨5, .fresh, 995, some 10, .claiming, some 0x8000, 930, 3900, some 170, some 3950,
      some ⟨some 42, 930, 3900, false, false⟩⟩] }
/-- QUEUED with a tank level and four peers that can carry the flow. -/
def tank (level : Nat) : State :=
  { rateGallery 80 185 with
    meas := { (rateGallery 80 185).meas with ch4 := { ChannelRec.start with status := .valid, filtered := some level } } }
def level (h : Nat) (s : State) : State :=
  { s with meas := { s.meas with ch2 := { ChannelRec.start with status := .valid, filtered := some h } } }
def phaseAt (a : Activity) (opens : List Valve) (elapsed : Nat) : State :=
  { washing a opens with seq := place a .running elapsed }
def rinsing (w : RinseWater) (elapsed susp tankLevel : Nat) : State :=
  { washing .rinse [.drn, .ww] with
    seq := { place .rinse .running 10 with rinseWater := some w, rinseElapsed := elapsed, suspTotal := susp }
    meas := { Measurement.start with ch4 := { ChannelRec.start with status := .valid, filtered := some tankLevel } } }
def blowing (b : BlowerRec) : State := (washing .air [.air]).setBlower b
def scoured : State :=
  { blowing ⟨.pulsed, true, some ⟨true, 3⟩, 0, true, false⟩ with seq := { place .air .running 279 with blowerOn := 179 } }
def aborting : State :=
  withValve .eff (fun r => { r with pos := .closing, commanded := some .closedEnd, drive := .energized })
    { washing .lower [] with
      seq := { Sequencer.start with activity := .abortPath, abortCause := some .operator } }
def travelling : State :=
  withValve .drn (fun r => { r with pos := .opening, commanded := some .openEnd, drive := .energized, timer := 59 })
    (washing .lower [.eff])
def opening : State :=
  withValve .eff (fun r => { r with pos := .opening, commanded := some .openEnd, drive := .energized, timer := 29 }) shut
def reversing : State :=
  withValve .eff (fun r => { r with pos := .opening, commanded := some .openEnd, drive := .pause }) shut
def lost (at_ : Nat) : State := withValve .eff (fun r => { r with lastDrift := some at_ }) filtering
/-- The same station with other parameters. -/
def reworked (f : Params → Params) (s : State) : State :=
  { s with startup := { s.startup with working := s.startup.working.map (fun w => { w with params := f w.params }) } }
/-- AIR at its end with t_off and T_aw of 0. -/
def unpaused : State :=
  reworked (fun p => { p with tOff := 0, tAw := 0 })
    (scoured.setBlower ⟨.continuous, true, none, 0, true, false⟩)
def noWaterAir (p : Option Pulse) (seen : Bool) (timer : Nat) : State :=
  reworked (fun p => { p with tAw := 0 }) (blowing ⟨.pulsed, true, p, timer, seen, false⟩)
def bubbling : State :=
  (washing .airWater [.air, .drn, .ww]).setBlower ⟨.continuous, true, none, 9, false, false⟩
/-- A wash whose air part was given up. -/
def airGiven (s : State) : State := { s with seq := { s.seq with airSkipped := true } }
/-- RECOVERY with the close of DRN still to end, and WW in FAULT or closed. -/
def recovering (fault : Bool) : State :=
  let s := withValve .drn
    (fun r => { r with pos := .closing, commanded := some .closedEnd, drive := .energized, timer := 59, waiting := [.startup] })
    (withValve .ww (fun r => if fault then { r with pos := .fault, faultKind := some .stuck } else r) (posed [] (at_ .start)))
  { s with
    startup := { s.startup with stage := .recovery }
    rot := { s.rot with held := true, recovery := true } }
/-- INPUTS with the window of CH4 one code short, the switches showing the service pattern. -/
def lastInput : State :=
  let c : ChannelRec := ⟨List.replicate 8 900, some 10, .valid, 0, 8⟩
  let s := at_ .start
  { s with
    startup := { s.startup with stage := .inputs }
    pins := { s.pins with
      inf := ⟨false, true⟩, eff := ⟨false, true⟩, drn := ⟨true, false⟩, ww := ⟨true, false⟩, air := ⟨true, false⟩
      ftw := ⟨true, false⟩ }
    meas := { Measurement.start with
      ch0 := c, ch1 := c, ch2 := c, ch3 := c, ch4 := ⟨List.replicate 7 900, none, .notReady, 0, 7⟩ } }
/-- A ripening two invalid samples of CH1 into its loss. -/
def losing : State :=
  { ripening .verified 5 with
    meas := { Measurement.start with ch1 := ⟨List.replicate 8 900, some 96, .valid, 2, 0⟩, decision := some 100 } }
/-- QUEUED behind a STALE peer that asserts hold, due to age to ABSENT. -/
def fading : State :=
  { tank 250 with peers := [⟨4, .stale, 800, some 10, .filtering, some 0x8800, 700, 3000, some 178, none, none⟩] }
/-- QUEUED with a full queue. -/
def crowded : State :=
  { tank 250 with link := { (tank 250).link with queue := [.yield 1, .yield 2, .yield 3, .yield 4] } }
/-- A valve being driven for the sequencer or the ripening. -/
def driven (v : Valve) (p : PosState) (s : State) : State :=
  withValve v (fun r => { r with
    pos := p, commanded := some (if p = .opening then .openEnd else .closedEnd), drive := .energized
    waiting := [.sequencer] }) s
/-- The entry of a phase with the close of EFF still to end. -/
def entering (a : Activity) : State := driven .eff .closing { washing a [] with seq := place a .closing 0 }
/-- The entry of a phase with one open still to end. -/
def entered (a : Activity) (v : Valve) (opens : List Valve) : State :=
  driven v .opening { washing a opens with seq := place a .opening 0 }
/-- The entry of a phase whose opens stand OPEN already, with one close still to end. -/
def closingLast (a : Activity) (v : Valve) (opens : List Valve) : State :=
  driven v .closing { washing a opens with seq := place a .closing 0 }
/-- AIR_WATER's OPENING after a blower fault, with AIR's close still to end. -/
def airClosing : State := airGiven (driven .air .closing { washing .airWater [.drn, .ww] with seq := place .airWater .opening 0 })
/-- RINSE's entry at its last close with a tank level and a time suspended before. -/
def rinseClosing (susp tankLevel : Nat) : State :=
  driven .air .closing { rinsing .flowing 0 susp tankLevel with seq := { place .rinse .closing 0 with suspTotal := susp } }
/-- The entry of a ripening with one move still to end, some valves open. -/
def ripeningMove (x : RipeningStep) (v : Valve) (p : PosState) (opens : List Valve) : State :=
  driven v p { posed opens (at_ .ripening) with rip := ⟨x, 0, 0, some .verified, false⟩ }
def ripeningEntry (x : RipeningStep) (v : Valve) (p : PosState) : State := ripeningMove x v p []
/-- A valve whose drive runs out of its travel time in the next second. -/
def overdue (v : Valve) (s : State) : State := withValve v (fun r => { r with timer := s.cfg.travel v - 1 }) s
def unripe : State :=
  { expiring .verified with
    rip := ⟨.running, 2399, 599, some .verified, false⟩
    meas := { Measurement.start with decision := some 101 } }

/-- A channel's window full of one code. -/
def filled (code value bad : Nat) : ChannelRec := ⟨List.replicate 8 code, some value, .valid, bad, 0⟩
def sampled2 (r : ChannelRec) (s : State) : State := { s with meas := { s.meas with ch2 := r } }
/-- A rinse with DRN and other valves open, and a record of CH4. -/
def rinsingOn (w : RinseWater) (susp : Nat) (opens : List Valve) (r : ChannelRec) : State :=
  let s := posed opens (rinsing w 5 susp 0)
  { s with meas := { s.meas with ch4 := r } }
/-- A ripening whose CH1 rises out of turbidity ripened. -/
def souring : State :=
  { ripening .verified 5 with meas := { Measurement.start with ch1 := filled 900 96 0, decision := some 96 } }
/-- CLAIMED and discarded: the CLAIM of `waitingClaim` at its eighth attempt, in a service state. -/
def unheard (x : ServiceState) (out : Option Nat) : State :=
  { waitingClaim with
    rot := { waitingClaim.rot with service := x, outstanding := out }
    link := { waitingClaim.link with attempt := some 8 } }
/-- ISOLATED with both switches of EFF made, DRN open and WW in a fault that its switches clear to OPEN. -/
def leftOn : State :=
  withValve .ww (fun r => { r with pos := .fault, faultKind := some .stuck })
    (withValve .eff (fun r => { r with pos := .fault, faultKind := some .feedback })
      (let s := posed [.drn] (at_ .isolated)
       { s with pins := { s.pins with eff := ⟨true, true⟩, ww := ⟨false, true⟩ } }))
/-- ISOLATED with both switches of DRN made. -/
def leftDrn : State :=
  withValve .drn (fun r => { r with pos := .fault, faultKind := some .feedback })
    (let s := posed [] (at_ .isolated)
     { s with pins := { s.pins with drn := ⟨true, true⟩ } })
/-- RINSE entered in this very second by AIR's end with T_aw = 0. -/
def rinseEntered (timer : Nat) (seen : Bool) : State :=
  ((washing .rinse []).setBlower ⟨.stopped, false, none, timer, seen, false⟩).setAirEndStop (some 1000)
/-- FILTERING with EFF re-driven toward open. -/
def reopening : State :=
  withValve .eff (fun r => { r with pos := .opening, drive := .energized, timer := 9, redrive := true }) filtering
/-- A reversal that ends with EFF at its new target. -/
def turned : State := { reversing with pins := { reversing.pins with eff := ⟨false, true⟩ } }

/-- A valve in FAULT, its coils off. -/
def failed (v : Valve) (s : State) : State :=
  withValve v (fun r => { r with pos := .fault, faultKind := some .stuck }) s
/-- The same station in another service state. -/
def serving (x : ServiceState) (s : State) : State := { s with rot := { s.rot with service := x } }
/-- The same station with these frames waiting. -/
def telling (q : List Frame) (s : State) : State := { s with link := { s.link with queue := q } }
/-- FILTERING with a peer to age and one whose occupancy lapses in the next second, a wait and an assembly on the link,
a request on the port being assembled, and its record being written. -/
def busy : State :=
  { writing with
    peers := [⟨4, .fresh, 970, some 10, .filtering, some 0x8800, 700, 3000, some 178, none, none⟩,
      ⟨5, .stale, 950, some 10, .claiming, some 0x8000, 930, 3900, some 170, some 1000,
        some ⟨some 42, 930, 3900, false, false⟩⟩]
    link := (quietAfter true).link
    port := { writing.port with assembly := some [0x10] } }

theorem witness_StepRunsFrontCommand :
    (({ filtering with pending := [.hold 1] } : State).pending = .hold 1 :: [])
    ∧ (({ filtering with delivered := [⟨.queueTrigger, .filtering⟩] } : State).pending = []
      ∧ ({ filtering with delivered := [⟨.queueTrigger, .filtering⟩] } : State).delivered = ⟨.queueTrigger, .filtering⟩ :: []
      ∧ (⟨.queueTrigger, .filtering⟩ : Delivery).trigger = .queueTrigger)
    ∧ (({ filtering with delivered := [⟨.hardBreakthrough, .filtering⟩] } : State).pending = []
      ∧ ({ filtering with delivered := [⟨.hardBreakthrough, .filtering⟩] } : State).delivered = ⟨.hardBreakthrough, .filtering⟩ :: []
      ∧ (⟨.hardBreakthrough, .filtering⟩ : Delivery).trigger = .hardBreakthrough)
    ∧ (({ filtering with delivered := [⟨.shortRun, .filtering⟩] } : State).pending = []
      ∧ ({ filtering with delivered := [⟨.shortRun, .filtering⟩] } : State).delivered = ⟨.shortRun, .filtering⟩ :: []
      ∧ (⟨.shortRun, .filtering⟩ : Delivery).trigger = .shortRun)
    ∧ ((after .resetLineAsserted filtering).pending = []
      ∧ (after .resetLineAsserted filtering).delivered = []
      ∧ (after .resetLineAsserted filtering).startup.stage = .safe
      ∧ (after .resetLineAsserted filtering).pins.resetLine = true)
    ∧ (State.reset.pending = []
      ∧ State.reset.delivered = []
      ∧ State.reset.startup.stage = .safe
      ∧ State.reset.pins.resetLine = false
      ∧ State.reset.startup = ⟨.safe, none, none, none, false, none, 0, .none⟩
      ∧ State.reset.port = ⟨none, none, none, [], none⟩)
    ∧ (filtering.pending = []
      ∧ filtering.delivered = []
      ∧ filtering.startup.stage ≠ .safe) :=
  by decide

/-- The same of a second in which entries change and short waits end: each of the commands it names is queued by one of
these states. -/
theorem witness_StepRunsFrontCommand_second :
    (∀ s ∈ [busy, locking, answering, refusing 1 none],
        s.pending = [] ∧ s.delivered = [] ∧ s.startup.stage ≠ .safe)
    ∧ (∀ c ∈ [Instr.peerAging 4, .occupancyLapse 5, .accessWaitEnd, .assemblyQuietTimeout, .portQuietTimeout,
        .recordWriteEnd], c ∈ busy.secondPasses.pending)
    ∧ Instr.peerAging 5 ∉ busy.secondPasses.pending ∧ Instr.occupancyLapse 4 ∉ busy.secondPasses.pending
    ∧ Instr.lockWriteEnd ∈ locking.secondPasses.pending ∧ Instr.answerSent ∈ answering.secondPasses.pending
    ∧ Instr.owedRefusalSent ∈ (refusing 1 none).secondPasses.pending := by decide

theorem witness_ResetLineStartsSafe :
    (filtering.memoryCanonical
      ∧ filtering.startup.memWrite = .none)
    ∧ (writing.memoryCanonical
      ∧ writing.startup.memWrite = .record
      ∧ writing.port.processing = some ⟨.writeConfig record, 1⟩
      ∧ record.length = 96)
    ∧ (locking.memoryCanonical
      ∧ locking.startup.memWrite = .lock) :=
  ⟨⟨by unfold State.memoryCanonical; decide, by decide⟩, ⟨by unfold State.memoryCanonical; decide, by decide,
    by decide, by decide⟩, ⟨by unfold State.memoryCanonical; decide, by decide⟩⟩

theorem witness_LoadFollowsSafe :
    (State.reset.startup.memWrite = .none
      ∧ State.reset.pins.resetLine = false)
    ∧ ((after .resetLineAsserted filtering).startup.memWrite = .none
      ∧ (after .resetLineAsserted filtering).pins.resetLine = true)
    ∧ (State.reset.startup = ⟨.safe, none, none, none, false, none, 0, .none⟩
      ∧ State.reset.port = ⟨none, none, none, [], none⟩) :=
  by decide

theorem witness_LoadRangesAndRelations :
    params = Params.ofFields field :=
  rfl

theorem witness_ListenEndReleases :
    ((listening filtering .filtering).startup.stage = .listen
      ∧ 3 * (listening filtering .filtering).cfg.s ≤ (listening filtering .filtering).startup.listenElapsed + 1
      ∧ (listening filtering .filtering).rot.service = .start
      ∧ (listening filtering .filtering).startup.selection = some .filtering
      ∧ (∀ v, ((listening filtering .filtering).valve v).pos = if v = .inf ∨ v = .eff then .opened else .closed)
      ∧ (listening filtering .filtering).meas.settling = none)
    ∧ ((listening shut .standby).startup.selection = some .standby
      ∧ (∀ v, ((listening shut .standby).valve v).pos = .closed))
    ∧ ((¬ (∀ v, ((listening drifted .recovery).valve v).pos = if v = .inf ∨ v = .eff then .opened else .closed))
      ∧ (∃ v, ((listening drifted .recovery).valve v).pos = .opened ∨ ((listening drifted .recovery).valve v).pos = .unknown))
    ∧ ((recovering false).startup.stage = .recovery
      ∧ (recovering false).rot.service = .start
      ∧ ((recovering false).valve .drn).pos = .closing
      ∧ ((recovering false).valve .drn).drive = .energized
      ∧ (∀ w, w ≠ .drn → ((recovering false).valve w).waiting = [])
      ∧ (recovering false).drive.valveFault = false
      ∧ (∀ w, w ≠ .drn → ((recovering false).valve w).pos = .closed)
      ∧ (recovering false).rot.held = true
      ∧ ((recovering false).switches .drn).closedMade = false
      ∧ (recovering false).cfg.travel .drn ≤ ((recovering false).valve .drn).timer + 1)
    ∧ ((recovering true).startup.stage = .recovery
      ∧ (recovering true).rot.service = .start
      ∧ ((recovering true).valve .drn).pos = .closing
      ∧ ((recovering true).valve .drn).drive = .energized
      ∧ (∀ w, w ≠ .drn → ((recovering true).valve w).waiting = [])
      ∧ (recovering true).drive.valveFault = true
      ∧ (recovering true).flagsTrue
      ∧ ((recovering true).switches .drn).closedMade = false
      ∧ (recovering true).cfg.travel .drn ≤ ((recovering true).valve .drn).timer + 1) :=
  ⟨⟨by decide, by decide, by decide, by decide, by intro v; cases v <;> decide, by decide⟩, ⟨by decide,
    by intro v; cases v <;> decide⟩, ⟨fun h => absurd (h .drn) (by decide), ⟨.drn, by decide⟩⟩, ⟨by decide,
    by decide, by decide, by decide, by intro w; cases w <;> decide, by decide, by intro w; cases w <;> decide,
    by decide, by decide, by decide⟩, ⟨by decide, by decide, by decide, by decide,
    by intro w; cases w <;> decide, by decide, by unfold State.flagsTrue; exact ⟨⟨fun h => absurd h (by decide),
    fun ⟨ch, h⟩ => absurd h (by cases ch <;> decide)⟩, ⟨fun _ => ⟨.ww, by decide⟩, fun _ => by decide⟩⟩,
    by decide, by decide⟩⟩

/-- The same where recovery begins with another pattern than the selection's, and where it has nothing to close. -/
theorem witness_ListenEndReleases_recovers :
    (∀ s ∈ [listening filtering .standby, listening filtering .recovery, listening drifted .filtering, listening shut .filtering,
        listening shut .recovery, listening stuck .recovery],
        s.startup.stage = .listen ∧ 3 * s.cfg.s ≤ s.startup.listenElapsed + 1 ∧ s.rot.service = .start
        ∧ ¬ (s.startup.selection = some .filtering
            ∧ ∀ v ∈ allValves, (s.valve v).pos = if v = .inf ∨ v = .eff then .opened else .closed)
        ∧ ¬ (s.startup.selection = some .standby ∧ ∀ v ∈ allValves, (s.valve v).pos = .closed)
        ∧ ∀ v ∈ allValves, (s.valve v).waiting = [])
    ∧ (((listening filtering .standby).valve .inf).pos ≠ .closed ∧ ((listening filtering .standby).valve .inf).pos ≠ .fault)
    ∧ (∀ v ∈ allValves, ((listening shut .filtering).valve v).pos = .closed)
    ∧ (∀ v ∈ allValves, ((listening stuck .recovery).valve v).pos = .closed ∨ ((listening stuck .recovery).valve v).pos = .fault)
    ∧ ((listening stuck .recovery).valve .eff).pos = .fault := by decide

theorem witness_SampleCountsThenStatus :
    (filtering.scanning = true
      ∧ filtering.deliveredNamed
      ∧ filtering.startup.stage ≠ .inputs
      ∧ filtering.seq.activity = .idle
      ∧ (614 ≤ (614 : BitVec 12).toNat ∧ (3583 : BitVec 12).toNat ≤ 3583)
      ∧ ((613 : BitVec 12).toNat < 614 ∨ 3583 < (613 : BitVec 12).toNat)
      ∧ 3583 < (3584 : BitVec 12).toNat
      ∧ Channel.ch1 ≠ .ch0
      ∧ (filtering.meas.get .ch0).status = .notReady
      ∧ (filtering.meas.get .ch0).window.length < 8)
    ∧ ((faulted.meas.get .ch1).status = .fault
      ∧ (faulted.meas.get .ch1).window.length = 8
      ∧ ((after (.sample .ch1 900) faulted).meas.get .ch1).validRun = 8)
    ∧ (((turbidity .valid filtering).meas.get .ch1).status = .valid)
    ∧ (((after (.sample .ch1 0) (nearFault .valid)).meas.get .ch1).invalidRun = 3)
    ∧ (losing.scanning = true
      ∧ losing.meas.ch1.status ≠ .fault
      ∧ (after (.sample .ch1 0) losing).meas.ch1.status = .fault
      ∧ (losing.rip.step = .closing ∨ losing.rip.step = .opening ∨ losing.rip.step = .running))
    ∧ (({ losing with rip := ending.rip } : State).rip.step = .ending
      ∧ (after (.sample .ch1 0) { losing with rip := ending.rip }).meas.ch1.status = .fault)
    ∧ (lastInput.scanning = true
      ∧ lastInput.deliveredNamed
      ∧ lastInput.startup.stage = .inputs
      ∧ lastInput.seq.activity = .idle
      ∧ (∀ c, ((after (.sample .ch4 900) lastInput).meas.get c).status ≠ .notReady)
      ∧ (∀ v, ((after (.sample .ch4 900) lastInput).valve v).pos = if v = .inf ∨ v = .eff then .opened else .closed)
      ∧ lastInput.drive.blower.output = false)
    ∧ ((∃ c, ((after (.sample .ch3 900) lastInput).meas.get c).status = .notReady))
    ∧ ((∀ c, ((after (.sample .ch4 900) { lastInput with pins := stuck.pins }).meas.get c).status ≠ .notReady)
      ∧ (({ lastInput with pins := stuck.pins } : State).switches .eff).closedMade = true
      ∧ (({ lastInput with pins := stuck.pins } : State).switches .eff).openMade = true)
    ∧ (souring.scanning = true
      ∧ souring.startup.stage ≠ .inputs
      ∧ (souring.meas.settling = none ∧ ((souring.valve .eff).pos = .opened ∨ (souring.valve .ftw).pos = .opened)
        ∧ souring.rot.service ≠ .washing ∧ souring.rot.service ≠ .start)
      ∧ (souring.meas.ch1.status = .fault ∨ (after (.sample .ch1 900) souring).meas.ch1.status ≠ .fault)
      ∧ (souring.rip.step = .running ∧ souring.rip.basis = some .verified ∧ souring.meas.settling = none)
      ∧ souring.turbidityRipened = true
      ∧ (after (.sample .ch1 900) souring).turbidityRipened = false)
    ∧ ((washing .air [.air]).scanning = true
      ∧ ¬ ((washing .air [.air]).meas.settling = none
        ∧ (((washing .air [.air]).valve .eff).pos = .opened ∨ ((washing .air [.air]).valve .ftw).pos = .opened)
        ∧ (washing .air [.air]).rot.service ≠ .washing ∧ (washing .air [.air]).rot.service ≠ .start)
      ∧ (washing .air [.air]).startup.stage ≠ .inputs
      ∧ (washing .air [.air]).seq.activity ≠ .lower
      ∧ (washing .air [.air]).seq.activity ≠ .refill
      ∧ (washing .air [.air]).seq.activity ≠ .rinse
      ∧ Channel.ch2 ≠ .ch1)
    ∧ (({ losing with rip := Ripening.start } : State).rip.step = .idle
      ∧ (after (.sample .ch1 0) { losing with rip := Ripening.start }).meas.ch1.status = .fault) :=
  ⟨⟨by decide, by unfold State.deliveredNamed; decide, by decide, by decide, by decide, by decide, by decide,
    by decide, by decide, by decide⟩, ⟨by decide, by decide, by decide⟩, by decide, by decide, ⟨by decide,
    by decide, by decide, by decide⟩, ⟨by decide, by decide⟩, ⟨by decide, by unfold State.deliveredNamed; decide,
    by decide, by decide, by intro c; cases c <;> decide, by intro v; cases v <;> decide, by decide⟩, ⟨.ch4,
    by decide⟩, ⟨by intro c; cases c <;> decide, by decide, by decide⟩, by decide, by decide, by decide⟩

theorem witness_SettlingExpiryFollows :
    (settling.meas.settling = some 59
      ∧ 60 ≤ 59 + 1
      ∧ settling.rot.service ≠ .start
      ∧ settling.rot.service ≠ .washing
      ∧ ((settling.valve .eff).pos = .opened ∨ (settling.valve .ftw).pos = .opened))
    ∧ (({ washing .lower [.eff] with meas := settling.meas } : State).rot.service = .washing)
    ∧ (settlingRipe.rip.step = .running
      ∧ settlingRipe.rip.basis = some .verified
      ∧ settlingRipe.turbidityRipened = true
      ∧ (after .settlingExpiry settlingRipe).turbidityRipened = false) :=
  by decide

theorem witness_ConditionSecondComputes :
    (filtering.startup.stage = .running
      ∧ filtering.rot.service.delivering = true
      ∧ (filtering.valve .eff).commanded = some .openEnd
      ∧ filtering.cond.runSeconds + 1 ≠ 60
      ∧ filtering.rot.held = false)
    ∧ (({ filtering with cond := { filtering.cond with runSeconds := 59 } } : State).cond.runSeconds + 1 = 60)
    ∧ (shut.startup.stage = .running
      ∧ (shut.rot.service.delivering = false ∨ (shut.valve .eff).commanded ≠ some .openEnd)
      ∧ shut.rot.service.delivering = false)
    ∧ (heldQueued.rot.service.delivering = true
      ∧ heldQueued.rot.held = true) :=
  by decide

theorem witness_ConditionSecondTriggers :
    ((running 4150 221 105).startup.stage = .running
      ∧ (running 4150 221 105).rot.service = .filtering
      ∧ (after .conditionSecond (running 4150 221 105)).cond.closedWindow = false
      ∧ (¬ ((running 4150 221 105).meas.ch1.status = .valid ∧ (running 4150 221 105).meas.decision.any ((running 4150 221 105).cfg.uHard ≤ ·) = true))
      ∧ (running 4150 221 105).cfg.qThr ≤ (after .conditionSecond (running 4150 221 105)).cond.urgency)
    ∧ ((after .conditionSecond (running 3600 198 96)).cond.urgency < (running 3600 198 96).cfg.qThr)
    ∧ (breaking.rot.held = false
      ∧ (breaking.meas.ch1.status = .valid ∧ breaking.meas.decision.any (breaking.cfg.uHard ≤ ·) = true)
      ∧ (after .conditionSecond breaking).cond.closedWindow = false)
    ∧ (early.rot.service = .filtering
      ∧ (after .conditionSecond early).cond.closedWindow = true
      ∧ (early.cfg.qThr ≤ (after .conditionSecond early).cond.cH ∨ early.cfg.qThr ≤ (after .conditionSecond early).cond.cU ∨ (early.meas.ch1.status = .valid ∧ early.meas.decision.any (early.cfg.uHard ≤ ·) = true)))
    ∧ (heldQueued.startup.stage = .running
      ∧ (heldQueued.rot.service = .queued ∨ heldQueued.rot.service = .claiming))
    ∧ (({ running 4150 221 105 with delivered := [⟨.queueTrigger, .filtering⟩] } : State).startup.stage = .running
      ∧ (⟨.queueTrigger, .filtering⟩ : Delivery) ∈ ({ running 4150 221 105 with delivered := [⟨.queueTrigger, .filtering⟩] } : State).delivered
      ∧ (running 4150 221 105).cfg.qThr ≤ (after .conditionSecond { running 4150 221 105 with delivered := [⟨.queueTrigger, .filtering⟩] }).cond.urgency)
    ∧ (windowEnd.startup.stage = .running
      ∧ windowEnd.cond.closedWindow = true
      ∧ windowEnd.cfg.tMin ≤ windowEnd.cond.runTime
      ∧ windowEnd.cond.runTime ≤ 65535)
    ∧ (lastMinute.startup.stage = .running
      ∧ lastMinute.cond.closedWindow = true
      ∧ lastMinute.rot.service.delivering = true
      ∧ (lastMinute.valve .eff).commanded = some .openEnd
      ∧ lastMinute.cond.runSeconds = 59
      ∧ lastMinute.cond.runTime + 1 = lastMinute.cfg.tMin
      ∧ lastMinute.cfg.tMin ≤ 65535) :=
  by decide

theorem witness_QueueAndShortRunTaken :
    (filtering.rot.service = .filtering)
    ∧ (waitingTriggers.rot.service = .filtering
      ∧ waitingTriggers.delivered ≠ [])
    ∧ (shut.rot.service ≠ .filtering
      ∧ (filtering.valve .ftw).commanded ≠ some .openEnd)
    ∧ (((posed [.inf, .eff, .ftw] filtering).valve .ftw).commanded = some .openEnd) :=
  by decide

theorem witness_HardBreakthroughHolds :
    (waitingTriggers.rot.service.delivering = true
      ∧ waitingTriggers.rot.held = false
      ∧ waitingTriggers.rot.service = .filtering
      ∧ waitingTriggers.delivered ≠ [])
    ∧ (heldQueued.rot.service.delivering = true
      ∧ heldQueued.rot.held = true)
    ∧ (filtering.rot.service.delivering = true
      ∧ filtering.rot.held = false
      ∧ (filtering.valve .eff).pos = .opened
      ∧ filtering.rot.service = .filtering)
    ∧ (shut.rot.service.delivering = false)
    ∧ ((claiming []).rot.service ≠ .filtering
      ∧ (claiming []).rot.service.delivering = true) :=
  by decide

theorem witness_PortKeepsArrivalOrder :
    (ReqKind.hold.formed
      ∧ State.reset.startup.stage = .safe)
    ∧ ((owing 3).startup.stage ≠ .safe
      ∧ ((owing 3).startup.memWrite ≠ .none ∨ (owing 3).port.pendingReq ≠ none)
      ∧ (owing 3).port.owed.length < 4)
    ∧ ((owing 4).port.pendingReq ≠ none
      ∧ 4 ≤ (owing 4).port.owed.length)
    ∧ (answering.startup.stage ≠ .safe
      ∧ answering.startup.memWrite = .none
      ∧ answering.port.pendingReq = none
      ∧ (answering.port.processing ≠ none ∨ answering.startup.stage = .load ∨ answering.port.owed ≠ [])) :=
  ⟨⟨trivial, by decide⟩, ⟨by decide, by decide, by decide⟩, ⟨by decide, by decide⟩, ⟨by decide, by decide,
    by decide, by decide⟩⟩

theorem witness_PortScreensRequests :
    (unconfigured.portFree
      ∧ unconfigured.startup.stage = .configFault)
    ∧ (filtering.portFree
      ∧ filtering.startup.stage ≠ .configFault
      ∧ (filtering.cfg.nG ≤ (6 : Byte).toNat ∨ (6 : Byte).toNat = filtering.ownNumber))
    ∧ ((filtering.cfg.nG ≤ (3 : Byte).toNat ∨ (3 : Byte).toNat = filtering.ownNumber)) :=
  ⟨⟨by unfold State.portFree; decide, by decide⟩, ⟨by unfold State.portFree; decide, by decide, by decide⟩,
    by decide⟩

theorem witness_ReadRequestsChangeNothing :
    (unconfigured.rot.service = .start
      ∧ filtering.rot.service ≠ .start
      ∧ scoured.seq.activity = .air)
    ∧ (filtering.portFree
      ∧ filtering.startup.stage ≠ .configFault
      ∧ (5 : Byte).toNat < filtering.cfg.nG
      ∧ (5 : Byte).toNat ≠ filtering.ownNumber
      ∧ filtering.startup.working ≠ none)
    ∧ (unconfigured.portFree
      ∧ unconfigured.startup.working = none
      ∧ unconfigured.startup.stage = .configFault)
    ∧ (allChannels[4]? = some .ch4
      ∧ allValves[5]? = some .ftw
      ∧ (⟨5, .absent, 800, some 10, .filtering, some 0x8800, 700, 3000, some 178, none, none⟩ : PeerEntry).rank = none
      ∧ (claiming []).ownRank = some ⟨false, 930, 3900, 3⟩
      ∧ (⟨5, .fresh, 995, some 10, .claiming, some 0x8000, 930, 3900, some 170, some 3950, some ⟨some 42, 930, 3900, false, false⟩⟩ : PeerEntry).rank = some ⟨false, 930, 3900, 5⟩) :=
  ⟨⟨by decide, by decide, by decide⟩, ⟨by unfold State.portFree; decide, by decide, by decide, by decide,
    by decide⟩, ⟨by unfold State.portFree; decide, by decide, by decide⟩, ⟨by decide, by decide, by decide,
    by decide, by decide⟩⟩

theorem witness_WashNowByServiceState :
    (filtering.portFree
      ∧ filtering.startup.stage ≠ .configFault
      ∧ filtering.rot.service = .filtering)
    ∧ ((at_ .queued).portFree
      ∧ (at_ .queued).startup.stage ≠ .configFault
      ∧ (at_ .queued).rot.service = .queued)
    ∧ ((at_ .ripening).portFree
      ∧ (at_ .ripening).startup.stage ≠ .configFault
      ∧ (at_ .ripening).rot.service = .ripening)
    ∧ (shut.portFree
      ∧ shut.startup.stage ≠ .configFault
      ∧ shut.rot.service ≠ .filtering
      ∧ shut.rot.service ≠ .queued
      ∧ shut.rot.service ≠ .ripening) :=
  ⟨⟨by unfold State.portFree; decide, by decide, by decide⟩, ⟨by unfold State.portFree; decide, by decide,
    by decide⟩, ⟨by unfold State.portFree; decide, by decide, by decide⟩, ⟨by unfold State.portFree; decide,
    by decide, by decide, by decide, by decide⟩⟩

theorem witness_TakeOutByServiceState :
    (filtering.portFree
      ∧ filtering.startup.stage ≠ .configFault
      ∧ (filtering.rot.service = .filtering ∨ filtering.rot.service = .queued ∨ filtering.rot.service = .claiming ∨ filtering.rot.service = .ripening)
      ∧ (filtering.valve .ftw).commanded ≠ some .openEnd)
    ∧ ((ripening .verified 5).portFree
      ∧ (ripening .verified 5).startup.stage ≠ .configFault
      ∧ (ripening .verified 5).rot.service = .ripening
      ∧ ((ripening .verified 5).valve .ftw).commanded = some .openEnd)
    ∧ ((claiming []).portFree
      ∧ (claiming []).startup.stage ≠ .configFault
      ∧ (claiming []).rot.service = .claiming
      ∧ (claiming []).link.dupAddress = false
      ∧ (claiming []).link.queue = [])
    ∧ (waitingClaim.portFree
      ∧ waitingClaim.startup.stage ≠ .configFault
      ∧ waitingClaim.rot.service = .queued
      ∧ waitingClaim.rot.outstanding = some 7
      ∧ waitingClaim.link.ordered
      ∧ waitingClaim.link.unstarted.any Frame.isClaim = true)
    ∧ ((wanting false).portFree
      ∧ (wanting false).startup.stage ≠ .configFault
      ∧ (wanting false).rot.service = .queued
      ∧ (wanting false).rot.outstanding = some 7
      ∧ (wanting false).link.ordered
      ∧ (wanting false).link.unstarted.any Frame.isClaim = false)
    ∧ ((at_ .isolated).portFree
      ∧ (at_ .isolated).startup.stage ≠ .configFault
      ∧ (at_ .isolated).rot.service = .isolated)
    ∧ (shut.portFree
      ∧ shut.startup.stage ≠ .configFault
      ∧ shut.rot.service = .standby)
    ∧ ((washing .lower [.eff]).portFree
      ∧ (washing .lower [.eff]).startup.stage ≠ .configFault
      ∧ (washing .lower [.eff]).rot.service = .washing)
    ∧ ((at_ .start).portFree
      ∧ (at_ .start).startup.stage ≠ .configFault
      ∧ (at_ .start).rot.service = .start) :=
  ⟨⟨by unfold State.portFree; decide, by decide, by decide, by decide⟩, ⟨by unfold State.portFree; decide,
    by decide, by decide, by decide⟩, ⟨by unfold State.portFree; decide, by decide, by decide, by decide,
    by decide⟩, ⟨by unfold State.portFree; decide, by decide, by decide, by decide,
    by unfold Link.ordered; decide, by decide⟩, ⟨by unfold State.portFree; decide, by decide, by decide,
    by decide, by unfold Link.ordered; decide, by decide⟩, ⟨by unfold State.portFree; decide, by decide,
    by decide⟩, ⟨by unfold State.portFree; decide, by decide, by decide⟩, ⟨by unfold State.portFree; decide,
    by decide, by decide⟩, ⟨by unfold State.portFree; decide, by decide, by decide⟩⟩

/-- The same of the YIELD from CLAIMING with frames waiting. -/
theorem witness_TakeOutByServiceState_yield :
    (telling [.yield 1, .yield 2, .yield 3] (claiming [])).portFree
      ∧ (telling [.yield 1, .yield 2, .yield 3] (claiming [])).startup.stage ≠ .configFault
      ∧ (telling [.yield 1, .yield 2, .yield 3] (claiming [])).rot.service = .claiming
      ∧ (telling [.yield 1, .yield 2, .yield 3] (claiming [])).link.dupAddress = false
      ∧ (telling [.yield 1, .yield 2, .yield 3] (claiming [])).link.queue.length < 4 :=
  ⟨by unfold State.portFree; decide, by decide⟩

theorem witness_ReturnBeginsRipening :
    (shut.portFree
      ∧ shut.startup.stage ≠ .configFault
      ∧ shut.out
      ∧ (∀ v, (shut.valve v).pos = .fault → ¬ ((shut.switches v).closedMade = true ∧ (shut.switches v).openMade = true))
      ∧ (∀ v ∈ ripeningCloses, (shut.valve v).pos = .closed)
      ∧ (shut.valve .inf).pos = .closed
      ∧ shut.noValveFault
      ∧ (∀ v, (shut.valve v).waiting = []))
    ∧ (drifted.portFree
      ∧ drifted.startup.stage ≠ .configFault
      ∧ drifted.out
      ∧ drifted.noValveFault
      ∧ (∃ v ∈ ripeningCloses, (drifted.valve v).pos ≠ .closed))
    ∧ (stuck.out
      ∧ (∃ v, (v = .inf ∨ v = .eff ∨ v = .ftw) ∧ (stuck.valve v).pos = .fault ∧ (stuck.switches v).closedMade = true ∧ (stuck.switches v).openMade = true))
    ∧ ((¬ filtering.out)) :=
  ⟨⟨by unfold State.portFree; decide, by decide, by unfold State.out; decide, by intro v; cases v <;> decide,
    by intro v; cases v <;> decide, by decide, by unfold State.noValveFault; intro v; cases v <;> decide,
    by intro v; cases v <;> decide⟩, ⟨by unfold State.portFree; decide, by decide, by unfold State.out; decide,
    by unfold State.noValveFault; intro v; cases v <;> decide, ⟨.drn, by decide, by decide⟩⟩,
    ⟨by unfold State.out; decide, ⟨.eff, by decide, by decide, by decide, by decide⟩⟩,
    by unfold State.out; decide⟩

/-- The same with a FEEDBACK fault left on EFF while DRN stands open and WW is cleared to OPEN, and with one left on DRN. -/
theorem witness_ReturnBeginsRipening_left :
    (leftOn.out
      ∧ (leftOn.valve .eff).pos = .fault ∧ (leftOn.switches .eff).closedMade = true ∧ (leftOn.switches .eff).openMade = true
      ∧ (leftOn.valve .ftw).commanded ≠ none ∧ (leftOn.valve .drn).pos = .opened ∧ (leftOn.valve .ww).pos = .fault
      ∧ (leftOn.switches .ww).closedMade = false ∧ (leftOn.switches .ww).openMade = true)
    ∧ (leftDrn.portFree
      ∧ leftDrn.startup.stage ≠ .configFault
      ∧ leftDrn.out
      ∧ (leftDrn.valve .drn).pos = .fault ∧ (leftDrn.switches .drn).closedMade = true
      ∧ (leftDrn.switches .drn).openMade = true
      ∧ (∀ v, v = .inf ∨ v = .eff ∨ v = .ftw → (leftDrn.valve v).pos ≠ .fault)) :=
  ⟨⟨by unfold State.out; decide, by decide⟩, by unfold State.portFree; decide, by decide, by unfold State.out; decide,
    by decide, by decide, by decide, by intro v; cases v <;> decide⟩

/-- The premises under which the flags of the STATUS are those that stand (`ToldOf`): of a RETURN and of REFILL's end. -/
theorem witness_told_flags :
    (shut.flagsTrue ∧ shut.outletsConfined)
    ∧ ((phaseAt .refill [.inf] 899).flagsTrue ∧ (phaseAt .refill [.inf] 899).outletsConfined) :=
  ⟨⟨⟨⟨fun h => absurd h (by decide), fun ⟨ch, h⟩ => absurd h (by cases ch <;> decide)⟩,
      ⟨fun h => absurd h (by decide), fun ⟨v, h⟩ => absurd h (by cases v <;> decide)⟩⟩,
      by unfold State.outletsConfined; decide⟩,
    ⟨⟨fun h => absurd h (by decide), fun ⟨ch, h⟩ => absurd h (by cases ch <;> decide)⟩,
      ⟨fun h => absurd h (by decide), fun ⟨v, h⟩ => absurd h (by cases v <;> decide)⟩⟩,
      by unfold State.outletsConfined; decide⟩

theorem witness_AbortTakesAbortPath :
    ((washing .lower [.eff]).portFree
      ∧ (washing .lower [.eff]).startup.stage ≠ .configFault
      ∧ (washing .lower [.eff]).rot.service = .washing
      ∧ (washing .lower [.eff]).seq.activity ≠ .idle
      ∧ (washing .lower [.eff]).seq.activity ≠ .abortPath
      ∧ (washing .lower [.eff]).noValveFault
      ∧ (∃ v, ((washing .lower [.eff]).valve v).pos ≠ .closed))
    ∧ (aborting.portFree
      ∧ aborting.rot.service = .washing
      ∧ aborting.seq.activity = .abortPath)
    ∧ ((washing .lower []).portFree
      ∧ (washing .lower []).rot.service = .washing
      ∧ (∀ v, ((washing .lower []).valve v).pos = .closed ∧ ((washing .lower []).valve v).waiting = []))
    ∧ (filtering.portFree
      ∧ filtering.startup.stage ≠ .configFault
      ∧ filtering.rot.service ≠ .washing) :=
  ⟨⟨by unfold State.portFree; decide, by decide, by decide, by decide, by decide,
    by unfold State.noValveFault; intro v; cases v <;> decide, ⟨.eff, by decide⟩⟩,
    ⟨by unfold State.portFree; decide, by decide, by decide⟩, ⟨by unfold State.portFree; decide, by decide,
    by intro v; cases v <;> decide⟩, ⟨by unfold State.portFree; decide, by decide, by decide⟩⟩

theorem witness_HoldAndResume :
    (filtering.portFree
      ∧ filtering.startup.stage ≠ .configFault
      ∧ filtering.rot.service ≠ .start
      ∧ filtering.rot.holdAsserted = false
      ∧ filtering.unclaimed)
    ∧ ((holding filtering).portFree
      ∧ (holding filtering).startup.stage ≠ .configFault
      ∧ (holding filtering).rot.service ≠ .start
      ∧ (holding filtering).rot.holdAsserted = true
      ∧ (holding filtering).unclaimed)
    ∧ ((at_ .queued).portFree
      ∧ (at_ .queued).startup.stage ≠ .configFault
      ∧ (at_ .queued).rot.holdAsserted = false
      ∧ (at_ .queued).peerHold = false
      ∧ (at_ .queued).rot.service = .queued
      ∧ (at_ .queued).rot.outstanding = none)
    ∧ ((claiming []).portFree
      ∧ (claiming []).startup.stage ≠ .configFault
      ∧ (claiming []).rot.holdAsserted = false
      ∧ (claiming []).peerHold = false
      ∧ (claiming []).rot.service = .claiming)
    ∧ ((holding (at_ .queued)).portFree
      ∧ (holding (at_ .queued)).startup.stage ≠ .configFault
      ∧ (holding (at_ .queued)).rot.holdAsserted = true
      ∧ (holding (at_ .queued)).peerHold = false
      ∧ (holding (at_ .queued)).rot.service = .queued
      ∧ (holding (at_ .queued)).rot.service ≠ .start)
    ∧ ((holding (claiming [])).portFree
      ∧ (holding (claiming [])).startup.stage ≠ .configFault
      ∧ (holding (claiming [])).rot.holdAsserted = true
      ∧ (holding (claiming [])).peerHold = false
      ∧ (holding (claiming [])).rot.service = .claiming
      ∧ (holding (claiming [])).rot.service ≠ .start)
    ∧ ((holding fading).portFree
      ∧ (holding fading).startup.stage ≠ .configFault
      ∧ (holding fading).rot.holdAsserted = true
      ∧ (holding fading).peerHold = true
      ∧ (holding fading).rot.service = .queued)
    ∧ (fading.portFree
      ∧ fading.startup.stage ≠ .configFault
      ∧ fading.rot.holdAsserted = false
      ∧ fading.peerHold = true
      ∧ fading.rot.service = .queued)
    ∧ ((at_ .start).portFree
      ∧ (at_ .start).startup.stage ≠ .configFault
      ∧ (at_ .start).rot.service = .start) :=
  ⟨⟨by unfold State.portFree; decide, by decide, by decide, by decide, by unfold State.unclaimed; decide⟩,
    ⟨by unfold State.portFree; decide, by decide, by decide, by decide, by unfold State.unclaimed; decide⟩,
    ⟨by unfold State.portFree; decide, by decide, by decide, by decide, by decide, by decide⟩,
    ⟨by unfold State.portFree; decide, by decide, by decide, by decide, by decide⟩,
    ⟨by unfold State.portFree; decide, by decide, by decide, by decide, by decide, by decide⟩,
    ⟨by unfold State.portFree; decide, by decide, by decide, by decide, by decide, by decide⟩,
    ⟨by unfold State.portFree; decide, by decide, by decide, by decide, by decide⟩,
    ⟨by unfold State.portFree; decide, by decide, by decide, by decide, by decide⟩,
    ⟨by unfold State.portFree; decide, by decide, by decide⟩⟩

theorem witness_ForgetRemovesAbsent :
    (contender.portFree
      ∧ contender.startup.stage ≠ .configFault
      ∧ (4 : Byte).toNat < contender.cfg.nG
      ∧ (4 : Byte).toNat ≠ contender.ownNumber
      ∧ contender.peer (4 : Byte).toNat = some ⟨4, .absent, 800, some 10, .filtering, some 0x8800, 700, 3000, some 178, none, none⟩
      ∧ (contender.peers.map PeerEntry.number).Nodup)
    ∧ (filtering.portFree
      ∧ filtering.startup.stage ≠ .configFault
      ∧ filtering.peer (4 : Byte).toNat = none)
    ∧ (contender.peer (5 : Byte).toNat = some ⟨5, .fresh, 995, some 10, .washing, some 0, 0, 3901, some 0, some 3950, none⟩
      ∧ (Presence.fresh ≠ .absent ∨ some 3950 ≠ none)) :=
  ⟨⟨by unfold State.portFree; decide, by decide, by decide, by decide, by decide, by decide⟩,
    ⟨by unfold State.portFree; decide, by decide, by decide⟩, ⟨by decide, by decide⟩⟩

theorem witness_RestartStartsAfresh :
    (filtering.portFree
      ∧ filtering.rot.service ≠ .washing)
    ∧ ((washing .lower [.eff]).portFree
      ∧ (washing .lower [.eff]).rot.service = .washing)
    ∧ ((after (.restart 1) filtering).startup.memWrite = .none
      ∧ (after (.restart 1) filtering).pins.resetLine = false
      ∧ (after (.restart 1) filtering).port.processing = some ⟨.restart, 1⟩
      ∧ (after (.restart 1) filtering).port.answer = some (Reply.accepted.toAnswer ⟨.restart, 1⟩)) :=
  ⟨⟨by unfold State.portFree; decide, by decide⟩, ⟨by unfold State.portFree; decide, by decide⟩, ⟨by decide,
    by decide, by decide, by decide⟩⟩

theorem witness_MemoryWriteRequests :
    (record.length = 96
      ∧ shut.portFree
      ∧ shut.startup.locked = false
      ∧ (shut.startup.stage = .configFault ∨ (shut.startup.stage = .running ∧ shut.rot.service = .standby)))
    ∧ (unconfigured.portFree
      ∧ unconfigured.startup.locked = false
      ∧ unconfigured.startup.stage = .configFault)
    ∧ (filtering.portFree
      ∧ filtering.startup.locked = false
      ∧ filtering.startup.stage ≠ .configFault
      ∧ (filtering.startup.stage ≠ .running ∨ filtering.rot.service ≠ .standby))
    ∧ ((after .lockWriteEnd locking).startup.locked = true
      ∧ ({ (after .lockWriteEnd locking) with port := .start } : State).portFree)
    ∧ (writing.memoryCanonical
      ∧ writing.startup.memWrite = .record
      ∧ writing.port.processing = some ⟨.writeConfig record, 1⟩)
    ∧ (locking.memoryCanonical
      ∧ locking.startup.memWrite = .lock
      ∧ locking.port.processing = some ⟨.lockConfig, 1⟩) :=
  ⟨⟨by decide, by unfold State.portFree; decide, by decide, by decide⟩, ⟨by unfold State.portFree; decide,
    by decide, by decide⟩, ⟨by unfold State.portFree; decide, by decide, by decide, by decide⟩, ⟨by decide,
    by unfold State.portFree; decide⟩, ⟨by unfold State.memoryCanonical; decide, by decide, by decide⟩,
    ⟨by unfold State.memoryCanonical; decide, by decide, by decide⟩⟩

theorem witness_PortServesInOrder :
    ((owing 1).port.processing = some ⟨.readStation, 1⟩
      ∧ (owing 1).port.answer = some ⟨1, [], 0⟩
      ∧ ReqKind.readStation ≠ .restart
      ∧ (owing 1).port.owed = ⟨.readPeer 4, 3⟩ :: [])
    ∧ (answering.port.processing = some ⟨.readStation, 1⟩
      ∧ answering.port.answer = some ⟨1, [], 0⟩
      ∧ answering.port.owed = []
      ∧ answering.port.pendingReq = none)
    ∧ ((owing 0).port.processing = some ⟨.readStation, 1⟩
      ∧ (owing 0).port.owed = []
      ∧ (owing 0).port.pendingReq = some ⟨.takeOut, 2⟩
      ∧ ReqKind.takeOut.formed
      ∧ (owing 0).startup.memWrite = .none
      ∧ (owing 0).startup.stage ≠ .safe
      ∧ (owing 0).startup.stage ≠ .load)
    ∧ ((refusing 2 none).port.processing = none
      ∧ (refusing 2 none).port.answer = some ⟨1, [], 0⟩
      ∧ (refusing 2 none).port.owed = ⟨.readPeer 4, 3⟩ :: ⟨.readPeer 4, 3⟩ :: [])
    ∧ ((refusing 1 none).port.owed = [⟨.readPeer 4, 3⟩]
      ∧ (refusing 1 none).port.pendingReq = none)
    ∧ ((refusing 1 (some ⟨.takeOut, 2⟩)).port.processing = none
      ∧ (refusing 1 (some ⟨.takeOut, 2⟩)).port.answer = some ⟨1, [], 0⟩
      ∧ (refusing 1 (some ⟨.takeOut, 2⟩)).port.owed = [⟨.readPeer 4, 3⟩]
      ∧ (refusing 1 (some ⟨.takeOut, 2⟩)).port.pendingReq = some ⟨.takeOut, 2⟩
      ∧ ReqKind.takeOut.formed
      ∧ (refusing 1 (some ⟨.takeOut, 2⟩)).startup.memWrite = .none
      ∧ (refusing 1 (some ⟨.takeOut, 2⟩)).startup.stage ≠ .safe
      ∧ (refusing 1 (some ⟨.takeOut, 2⟩)).startup.stage ≠ .load) :=
  ⟨⟨by decide, by decide, by decide, by decide⟩, ⟨by decide, by decide, by decide, by decide⟩, ⟨by decide,
    by decide, by decide, trivial, by decide, by decide, by decide⟩, ⟨by decide, by decide, by decide⟩,
    ⟨by decide, by decide⟩, ⟨by decide, by decide, by decide, by decide, trivial, by decide, by decide,
    by decide⟩⟩

theorem witness_RequestCharactersArrive :
    (ReqKind.forget 5).formed
      ∧ filtering.startup.stage ≠ .safe :=
  ⟨trivial, by decide⟩

theorem witness_StatusRequestByQueue :
    ((queued [] none true).link.dupAddress = true)
    ∧ ((queued [.yield 4, .status ⟨.filtering, 0, 0x8000, 3, 30, 0, 5, 100⟩] none false).link.dupAddress = false
      ∧ (queued [.yield 4, .status ⟨.filtering, 0, 0x8000, 3, 30, 0, 5, 100⟩] none false).link.unstarted = [.yield 4] ++ Frame.status ⟨.filtering, 0, 0x8000, 3, 30, 0, 5, 100⟩ :: []
      ∧ (∀ f ∈ ([.yield 4] ++ [] : List Frame), f.isStatus = false))
    ∧ ((∀ f ∈ (queued [.status ⟨.filtering, 0, 0x8000, 3, 30, 0, 5, 100⟩] (some 1) false).link.unstarted, f.isStatus = false)
      ∧ (queued [.status ⟨.filtering, 0, 0x8000, 3, 30, 0, 5, 100⟩] (some 1) false).link.started = [.status ⟨.filtering, 0, 0x8000, 3, 30, 0, 5, 100⟩])
    ∧ ((∀ f ∈ (queued [.yield 1, .yield 2, .yield 3] none false).link.queue, f.isStatus = false)
      ∧ (queued [.yield 1, .yield 2, .yield 3] none false).link.queue.length < 4)
    ∧ ((∀ f ∈ (queued [.yield 1, .yield 2, .yield 3, .yield 4] none false).link.queue, f.isStatus = false)
      ∧ 4 ≤ (queued [.yield 1, .yield 2, .yield 3, .yield 4] none false).link.queue.length) :=
  by decide

theorem witness_ClassZeroOfferPlaced :
    ((Frame.yield 4).isStatus = false
      ∧ (¬ ((queued [.yield 1, .yield 2, .yield 3] none false).link.dupAddress = true ∨ ((Frame.yield 4).isClaim = true ∧ (queued [.yield 1, .yield 2, .yield 3] none false).link.queue.any Frame.isClaim = true) ∨ (4 ≤ (queued [.yield 1, .yield 2, .yield 3] none false).link.queue.length ∧ (queued [.yield 1, .yield 2, .yield 3] none false).link.unstarted.filter Frame.isStatus = [])))
      ∧ (queued [.yield 1, .yield 2, .yield 3] none false).link.queue.length < 4)
    ∧ (4 ≤ (queued [.yield 1, .yield 2, .yield 3, .status ⟨.filtering, 0, 0x8000, 3, 30, 0, 5, 100⟩] none false).link.queue.length
      ∧ (queued [.yield 1, .yield 2, .yield 3, .status ⟨.filtering, 0, 0x8000, 3, 30, 0, 5, 100⟩] none false).link.unstarted.filter Frame.isStatus ≠ [])
    ∧ ((queued [] none true).link.dupAddress = true
      ∧ (Frame.yield 4).isClaim = false)
    ∧ ((wanting true).link.dupAddress = true
      ∧ (wanting true).rot.outstanding = some 7
      ∧ (wanting true).rot.service = .queued
      ∧ (wanting true).rot.claimed ≠ none) :=
  by decide

theorem witness_StatusTickAsksStatus :
    (filtering.link.statusTick = some 9
      ∧ filtering.cfg.s ≤ 9 + 1
      ∧ filtering.unclaimed)
    ∧ (filtering.rot.service ≠ .washing
      ∧ filtering.rot.service ≠ .claiming)
    ∧ ((washing .air [.air]).rot.service = .washing)
    ∧ ((claiming []).rot.settleDeadline = some 1000
      ∧ (claiming []).rot.service = .claiming)
    ∧ ((Frame.status ⟨.washing, 6, 0xFFFF, 1000, 65535, 65535, 10, 65535⟩).inRange = true) :=
  ⟨⟨by decide, by decide, by unfold State.unclaimed; decide⟩, ⟨by decide, by decide⟩, by decide, ⟨by decide,
    by decide⟩, by decide⟩

theorem witness_HeadFrameAttempts :
    (({ filtering with link := { filtering.link with queue := [.yield 4], accessWait := some 0 } } : State).link.queue = .yield 4 :: []
      ∧ ({ filtering with link := { filtering.link with queue := [.yield 4], accessWait := some 0 } } : State).link.accessWait = some 0
      ∧ 0 < ({ filtering with link := { filtering.link with queue := [.yield 4], accessWait := some 0 } } : State).link.gap ({ filtering with link := { filtering.link with queue := [.yield 4], accessWait := some 0 } } : State).ownNumber)
    ∧ (({ filtering with link := { filtering.link with queue := [.yield 4], accessWait := some 30 } } : State).link.queue = .yield 4 :: []
      ∧ ({ filtering with link := { filtering.link with queue := [.yield 4], accessWait := some 30 } } : State).link.accessWait = some 30
      ∧ ({ filtering with link := { filtering.link with queue := [.yield 4], accessWait := some 30 } } : State).link.gap ({ filtering with link := { filtering.link with queue := [.yield 4], accessWait := some 30 } } : State).ownNumber ≤ 30)
    ∧ ((queued [.yield 4] (some 7) false).link.queue = .yield 4 :: []
      ∧ (queued [.yield 4] (some 7) false).link.attempt = some 7
      ∧ (queued [.yield 4] (some 7) false).link.accessWait = none
      ∧ 7 < 8)
    ∧ ((queued [.yield 4] (some 8) false).link.attempt = some 8
      ∧ (queued [.yield 4] (some 8) false).link.accessWait = none
      ∧ (Frame.yield 4).isClaim = false
      ∧ ((Frame.yield 4).isStatus = true → (queued [.yield 4] (some 8) false).link.statusDue = false))
    ∧ ((queued [.yield 4] (some 1) false).link.attempt ≠ none
      ∧ (queued [.yield 4] (some 1) false).link.accessWait = none
      ∧ ((Frame.yield 4).isStatus = false ∨ (queued [.yield 4] (some 1) false).link.statusDue = false))
    ∧ (due.link.queue = .status ⟨.filtering, 0, 0x8000, 3, 30, 0, 5, 100⟩ :: []
      ∧ due.link.attempt ≠ none
      ∧ due.link.accessWait = none
      ∧ (Frame.status ⟨.filtering, 0, 0x8000, 3, 30, 0, 5, 100⟩).isClaim = false
      ∧ (Frame.status ⟨.filtering, 0, 0x8000, 3, 30, 0, 5, 100⟩).isStatus = true
      ∧ due.link.statusDue = true
      ∧ due.link.dupAddress = false
      ∧ due.link.ordered)
    ∧ (({ due with link := { due.link with attempt := some 8 } } : State).link.attempt = some 8
      ∧ due.link.accessWait = none
      ∧ ({ due with link := { due.link with attempt := some 8 } } : State).link.statusDue = true
      ∧ ({ due with link := { due.link with attempt := some 8 } } : State).link.ordered)
    ∧ ((unheard .queued (some 7)).link.queue = .claim ⟨930, 3900, false, false, 7, 3430⟩ :: []
      ∧ (unheard .queued (some 7)).link.attempt = some 8
      ∧ (unheard .queued (some 7)).link.accessWait = none
      ∧ (unheard .queued (some 7)).rot.outstanding = some 7
      ∧ (unheard .queued (some 7)).rot.service = .queued
      ∧ (unheard .queued (some 7)).rot.claimed ≠ none
      ∧ (unheard .filtering (some 7)).rot.service ≠ .queued
      ∧ (unheard .queued none).rot.outstanding ≠ some 7) :=
  ⟨⟨by decide, by decide, by decide⟩, ⟨by decide, by decide, by decide⟩, ⟨by decide, by decide, by decide,
    by decide⟩, ⟨by decide, by decide, by decide, by decide⟩, ⟨by decide, by decide, by decide⟩, ⟨by decide,
    by decide, by decide, by decide, by decide, by decide, by decide, by unfold Link.ordered; decide⟩,
    ⟨by decide, by decide, by decide, by unfold Link.ordered; decide⟩, by decide⟩

theorem witness_ClaimSentEntersClaiming :
    ((wanting false).link.queue = .claim ⟨930, 3900, false, false, 7, 3430⟩ :: []
      ∧ (wanting false).link.attempt ≠ none
      ∧ (wanting false).link.accessWait = none
      ∧ (wanting false).rot.outstanding = some 7
      ∧ (wanting false).link.dupAddress = false
      ∧ (wanting false).rot.service = .queued
      ∧ (wanting false).rot.claimed ≠ none
      ∧ (wanting false).effectiveHold = false
      ∧ (wanting false).occupyingPeers < (wanting false).cfg.w)
    ∧ (({ wanting false with rot := { (wanting false).rot with claimed := none } } : State).link.queue = .claim ⟨930, 3900, false, false, 7, 3430⟩ :: []
      ∧ (({ wanting false with rot := { (wanting false).rot with claimed := none } } : State).rot.service ≠ .queued ∨ ({ wanting false with rot := { (wanting false).rot with claimed := none } } : State).rot.claimed = none)
      ∧ ([] : List Frame).length < 4)
    ∧ ((wanting false).link.queue = .claim ⟨930, 3900, false, false, 7, 3430⟩ :: []
      ∧ (wanting false).link.attempt ≠ none
      ∧ (wanting false).link.accessWait = none
      ∧ (wanting false).rot.outstanding = some 7
      ∧ (wanting false).link.dupAddress = false
      ∧ (wanting false).rot.claimed = some ⟨930, 3900⟩
      ∧ (wanting false).rot.service = .queued
      ∧ (wanting false).effectiveHold = false
      ∧ (wanting false).washingPeers + (wanting false).peers.countP (fun e => e.occupying && e.state == .claiming && e.rank.any (fun a => a.beats ⟨false, 930, 3900, (wanting false).ownNumber⟩)) < (wanting false).cfg.w)
    ∧ ((holding (wanting false)).link.queue = .claim ⟨930, 3900, false, false, 7, 3430⟩ :: []
      ∧ (holding (wanting false)).link.attempt ≠ none
      ∧ (holding (wanting false)).link.accessWait = none
      ∧ (holding (wanting false)).rot.outstanding = some 7
      ∧ (holding (wanting false)).link.dupAddress = false
      ∧ (holding (wanting false)).rot.claimed = some ⟨930, 3900⟩
      ∧ (holding (wanting false)).rot.service = .queued
      ∧ (holding (wanting false)).effectiveHold = true)
    ∧ (outranked.link.queue = .claim ⟨930, 3900, false, false, 7, 3430⟩ :: []
      ∧ outranked.link.attempt ≠ none
      ∧ outranked.link.accessWait = none
      ∧ outranked.rot.outstanding = some 7
      ∧ outranked.link.dupAddress = false
      ∧ outranked.rot.claimed = some ⟨930, 3900⟩
      ∧ outranked.rot.service = .queued
      ∧ outranked.effectiveHold = false
      ∧ outranked.cfg.w ≤ outranked.washingPeers + outranked.peers.countP (fun e => e.occupying && e.state == .claiming && e.rank.any (fun a => a.beats ⟨false, 930, 3900, outranked.ownNumber⟩))) :=
  by decide

set_option maxRecDepth 100000 in
theorem witness_FrameCharactersArrive :
    ((12 : Byte).toNat ≤ 12
      ∧ (List.replicate 14 (0 : Byte)).length = (12 : Byte).toNat + 2
      ∧ filtering.link.ordered
      ∧ filtering.link.transmitting = false)
    ∧ ((0 : Byte).toNat ≤ 12
      ∧ ([0, 0] : List Byte).length = (0 : Byte).toNat + 2)
    ∧ ((queued [.yield 41] (some 1) false).link.queue = .yield 41 :: []
      ∧ (queued [.yield 41] (some 1) false).link.attempt ≠ none
      ∧ (queued [.yield 41] (some 1) false).link.accessWait = none
      ∧ (queued [.yield 41] (some 1) false).link.receiver = true
      ∧ ([.status, .claim, .yield, .done] : List FrameKind)[2]? = some (Frame.yield 41).kind
      ∧ ((Frame.yield 41).bytes (queued [.yield 41] (some 1) false).ownNumber)[(queued [.yield 41] (some 1) false).link.echoed]? = some 0x33
      ∧ (¬ ((queued [.yield 41] (some 1) false).link.echoed + 1 = ((Frame.yield 41).bytes (queued [.yield 41] (some 1) false).ownNumber).length))
      ∧ (queued [.yield 41] (some 1) false).link.echoed = 0
      ∧ (0 : LineBits) ≠ LineChar.bits ⟨0x33, true, false⟩)
    ∧ (({ queued [.yield 41] (some 1) false with link := { (queued [.yield 41] (some 1) false).link with echoed := 4 } } : State).link.echoed + 1 = ((Frame.yield 41).bytes ({ queued [.yield 41] (some 1) false with link := { (queued [.yield 41] (some 1) false).link with echoed := 4 } } : State).ownNumber).length
      ∧ (({ queued [.yield 41] (some 1) false with link := { (queued [.yield 41] (some 1) false).link with echoed := 4 } } : State).driven (.yield 41))[4]?.isSome = true) :=
  ⟨⟨by decide, by decide, by unfold Link.ordered; decide, by decide⟩, ⟨by decide, by decide⟩, ⟨by decide,
    by decide, by decide, by decide, by decide, by decide, by decide, by decide, by decide⟩, ⟨by decide,
    by decide⟩⟩

set_option maxRecDepth 100000 in
theorem witness_DiscardsLeaveNoTrace :
    (State.reset.link.receiver = false)
    ∧ (filtering.link.transmitting = false
      ∧ (1 : LineBits).getLsbD 0 = true)
    ∧ (((queued [.yield 41] (some 1) false).link.receiver = false ∨ (queued [.yield 41] (some 1) false).link.transmitting = true))
    ∧ (filtering.link.receiver = true
      ∧ filtering.link.transmitting = false
      ∧ (⟨0x20, true, true⟩ : LineChar).framingError = true)
    ∧ (((quietAfter true).link.assembly ≠ none ∧ (quietAfter true).link.waitFromQuiet = true)
      ∧ (quietAfter false).link.assembly ≠ none
      ∧ (quietAfter false).link.waitFromQuiet = false)
    ∧ (({ filtering with link := { filtering.link with assembly := some [0x14] } } : State).link.assembly = some [0x14]
      ∧ 12 < (⟨13, false, false⟩ : LineChar).data.toNat
      ∧ (⟨13, false, false⟩ : LineChar).framingError = false
      ∧ (⟨13, false, false⟩ : LineChar).marker = false)
    ∧ (filtering.link.assembly = none
      ∧ (⟨0x14, true, false⟩ : LineChar).marker = true)
    ∧ (4 ≤ ([0x33, 0, 0, 0] : List Byte).length
      ∧ ([0x33, 0, 0, 0] : List Byte).drop 2 ≠ crcBytes (([0x33, 0, 0, 0] : List Byte).take 2))
    ∧ ((Frame.yield 255).inRange = true
      ∧ filtering.cfg.nG ≤ 6
      ∧ 6 < 16)
    ∧ (([0, 0, 0] : List Byte).length = (1 : Byte).toNat + 2
      ∧ (¬ (1 ≤ (0x53 : Byte).toNat / 16 ∧ (0x53 : Byte).toNat / 16 ≤ 4)))
    ∧ (([12, 8, 1, 3] : List Nat)[(0x33 : Byte).toNat / 16 - 1]? = some 1
      ∧ (0 : Byte).toNat ≠ 1
      ∧ ([0, 0] : List Byte).length = (0 : Byte).toNat + 2)
    ∧ (filtering.startup.stage ≠ .safe
      ∧ ({ filtering with port := { filtering.port with assembly := some [0x10] } } : State).port.assembly = some [0x10]
      ∧ requestLength ((0x10 : Byte).toNat / 16) ≠ some (⟨1, false, false⟩ : LineChar).data.toNat)
    ∧ (([0, 0, 0] : List Byte).length = (1 : Byte).toNat + 2
      ∧ requestLength ((0x10 : Byte).toNat / 16) ≠ some (1 : Byte).toNat)
    ∧ (([0, 0] : List Byte).length = (0 : Byte).toNat + 2
      ∧ ([0, 0] : List Byte).drop (0 : Byte).toNat ≠ crcBytes (0x10 :: 0 :: ([0, 0] : List Byte).take (0 : Byte).toNat))
    ∧ (State.reset.startup.stage = .safe) :=
  by decide

/-- The same of good frames out of range (R76): states 0 and 8, the urgency 1001, the intervals 0 and 11, and the outcome
3, heard in FILTERING, in QUEUED without and with a CLAIM outstanding, and in CLAIMING. -/
theorem witness_DiscardsLeaveNoTrace_range :
    (∀ payload ∈ ([[0, 0, 0, 0, 0, 0, 0, 0, 0, 10, 0, 0], [0x80, 0, 0, 0, 0, 0, 0, 0, 0, 10, 0, 0],
        [0x10, 0, 0, 3, 0xE9, 0, 0, 0, 0, 10, 0, 0], [0x10, 0, 0, 0, 0, 0, 0, 0, 0, 0, 0, 0],
        [0x10, 0, 0, 0, 0, 0, 0, 0, 0, 11, 0, 0]] : List (List Byte)),
        payload.length = 12
        ∧ (fieldAt payload 0 1 / 16 = 0 ∨ 7 < fieldAt payload 0 1 / 16 ∨ 1000 < fieldAt payload 3 2
          ∨ fieldAt payload 9 1 = 0 ∨ 10 < fieldAt payload 9 1))
    ∧ (([3, 0xE9, 0, 0, 0, 0, 0, 0] : List Byte).length = 8 ∧ 1000 < fieldAt [3, 0xE9, 0, 0, 0, 0, 0, 0] 0 2)
    ∧ (([3, 0, 0] : List Byte).length = 3 ∧ 2 < fieldAt [3, 0, 0] 0 1)
    ∧ (0x15 : Byte).toNat / 16 = 1 ∧ (0x25 : Byte).toNat / 16 = 2 ∧ (0x45 : Byte).toNat / 16 = 4
    ∧ (∀ s ∈ [following, contender, waitingClaim, claiming []],
        (0x15 : Byte).toNat % 16 < s.cfg.nG ∧ (0x15 : Byte).toNat % 16 ≠ s.ownNumber ∧ s.link.receiver = true
        ∧ s.link.transmitting = false)
    ∧ (following.rot.service ≠ .queued ∧ following.rot.service ≠ .claiming)
    ∧ (contender.rot.service = .queued ∧ contender.rot.outstanding = none)
    ∧ (waitingClaim.rot.service = .queued ∧ waitingClaim.rot.outstanding ≠ none)
    ∧ (claiming []).rot.service = .claiming := by decide

theorem witness_OwnNumberHeardSilences :
    ((Frame.yield 255).inRange = true
      ∧ filtering.cfg.nG ≤ 16
      ∧ filtering.ownNumber < filtering.cfg.nG
      ∧ filtering.link.receiver = true
      ∧ filtering.link.transmitting = false
      ∧ filtering.link.dupAddress = false
      ∧ filtering.unclaimed
      ∧ filtering.rot.outstanding = none)
    ∧ ((claiming []).link.dupAddress = false
      ∧ (claiming []).rot.service = .claiming)
    ∧ ((waitingClaim).link.transmitting = false
      ∧ waitingClaim.rot.service = .queued
      ∧ waitingClaim.rot.claimed ≠ none
      ∧ waitingClaim.rot.outstanding = some 7
      ∧ waitingClaim.link.queue = [.claim ⟨930, 3900, false, false, 7, 3430⟩]) :=
  ⟨⟨by decide, by decide, by decide, by decide, by decide, by decide, by unfold State.unclaimed; decide,
    by decide⟩, ⟨by decide, by decide⟩, ⟨by decide, by decide, by decide, by decide, by decide⟩⟩

/-- The same with the outstanding CLAIM behind a YIELD, in QUEUED with and without its claim wanted, in FILTERING and in
CLAIMING, and with a CLAIM outstanding that does not wait. -/
theorem witness_OwnNumberHeardSilences_queue :
    (let q : List Frame := [.yield 1, .claim ⟨930, 3900, false, false, 7, 3430⟩]
     let s := telling q waitingClaim
     let unwanted := { s with rot := { s.rot with claimed := none } }
     (∀ t ∈ [s, unwanted, serving .filtering s, serving .claiming s],
        t.link.transmitting = false ∧ t.link.dupAddress = false ∧ t.rot.outstanding = some 7
          ∧ Frame.claim ⟨930, 3900, false, false, 7, 3430⟩ ∈ t.link.queue)
      ∧ (s.rot.service = .queued ∧ s.rot.claimed ≠ none) ∧ (unwanted.rot.service = .queued ∧ unwanted.rot.claimed = none)
      ∧ (∀ f ∈ (telling [.yield 1] waitingClaim).link.queue, f.isClaim = false)
      ∧ (telling [.yield 1] waitingClaim).rot.service ≠ .claiming) := by decide

theorem witness_FrameEncodingRoundTrip :
    ((Frame.status ⟨.washing, 6, 0xFFFF, 1000, 65535, 65535, 10, 65535⟩).inRange = true
      ∧ 15 < 16
      ∧ 16 ≤ 16)
    ∧ ((Frame.claim ⟨0, 0, true, true, 255, 0⟩).inRange = true
      ∧ (Frame.done .fault 65535).inRange = true) :=
  by decide

theorem witness_StatusFrameRecorded :
    ((Frame.status ⟨.claiming, 0, 0x8000, 934, 170, 3900, 10, 3418⟩).inRange = true
      ∧ filtering.cfg.nG ≤ 16
      ∧ 5 < filtering.cfg.nG
      ∧ 5 ≠ filtering.ownNumber
      ∧ filtering.link.receiver = true
      ∧ filtering.link.transmitting = false
      ∧ filtering.unclaimed
      ∧ filtering.peer 5 = none)
    ∧ (contender.rot.service = .queued
      ∧ 5 < contender.cfg.nG
      ∧ contender.link.receiver = true
      ∧ contender.link.transmitting = false)
    ∧ (following.unclaimed
      ∧ following.peer 5 = some ⟨5, .fresh, 995, some 10, .claiming, some 0x8000, 930, 3900, some 170, some 3950, some ⟨some 42, 930, 3900, false, false⟩⟩)
    ∧ (({ contender with rot := { contender.rot with service := .filtering } } : State).unclaimed
      ∧ ({ contender with rot := { contender.rot with service := .filtering } } : State).peer 1 = some ⟨1, .stale, 960, some 10, .queued, some 0x8000, 950, 4300, some 182, none, none⟩
      ∧ ServiceState.queued ≠ .claiming) :=
  ⟨⟨by decide, by decide, by decide, by decide, by decide, by decide, by unfold State.unclaimed; decide,
    by decide⟩, ⟨by decide, by decide, by decide, by decide⟩, ⟨by unfold State.unclaimed; decide, by decide⟩,
    ⟨by unfold State.unclaimed; decide, by decide, by decide⟩⟩

theorem witness_ClaimFrameRecorded :
    ((Frame.claim ⟨930, 3900, false, false, 7, 3430⟩).inRange = true
      ∧ filtering.cfg.nG ≤ 16
      ∧ 5 < filtering.cfg.nG
      ∧ 5 ≠ filtering.ownNumber
      ∧ filtering.link.receiver = true
      ∧ filtering.link.transmitting = false
      ∧ filtering.unclaimed
      ∧ filtering.peer 5 = none)
    ∧ (following.unclaimed
      ∧ (following.peer 5).isSome = true) :=
  ⟨⟨by decide, by decide, by decide, by decide, by decide, by decide, by unfold State.unclaimed; decide,
    by decide⟩, ⟨by unfold State.unclaimed; decide, by decide⟩⟩

theorem witness_YieldAndDoneRecorded :
    (following.cfg.nG ≤ 16
      ∧ 5 < following.cfg.nG
      ∧ 5 ≠ following.ownNumber
      ∧ following.link.receiver = true
      ∧ following.link.transmitting = false
      ∧ following.unclaimed
      ∧ following.peer 5 = some ⟨5, .fresh, 995, some 10, .claiming, some 0x8000, 930, 3900, some 170, some 3950, some ⟨some 42, 930, 3900, false, false⟩⟩
      ∧ 42 ≤ 255
      ∧ (some 42 = some 42 ∨ some 42 = (none : Option Nat))
      ∧ (∀ k, some (⟨some 42, 930, 3900, false, false⟩ : PeerClaim) = some k → k.serial ≠ some 41 ∧ k.serial ≠ none))
    ∧ (filtering.peer 5 = none) :=
  ⟨⟨by decide, by decide, by decide, by decide, by decide, by unfold State.unclaimed; decide, by decide,
    by decide, by decide, by intro k h; cases h; decide⟩, by decide⟩

/-- The same of the three in WASHING, from a peer with an entry that claims. -/
theorem witness_recorded_in_washing :
    (let s := serving .washing following
     s.cfg.nG ≤ 16 ∧ 5 < s.cfg.nG ∧ 5 ≠ s.ownNumber ∧ s.link.receiver = true ∧ s.link.transmitting = false
      ∧ s.rot.service = .washing ∧ s.rot.service ≠ .queued ∧ s.rot.service ≠ .claiming ∧ (s.peer 5).isSome = true
      ∧ (following.rot.service ≠ .washing ∧ following.rot.service ≠ .queued ∧ following.rot.service ≠ .claiming)) := by
  decide

theorem witness_PeersAgeAndLapse :
    (following.peer (5 : BitVec 4).toNat = some ⟨5, .fresh, 995, some 10, .claiming, some 0x8000, 930, 3900, some 170, some 3950, some ⟨some 42, 930, 3900, false, false⟩⟩
      ∧ following.listening = true
      ∧ following.unclaimed)
    ∧ (({ following with now := 3951 } : State).listening = true
      ∧ 3950 < ({ following with now := 3951 } : State).now
      ∧ ({ following with now := 3951 } : State).rot.service ≠ .queued)
    ∧ (contender.peer 1 = some ⟨1, .stale, 960, some 10, .queued, some 0x8000, 950, 4300, some 182, none, none⟩) :=
  ⟨⟨by decide, by decide, by unfold State.unclaimed; decide⟩, ⟨by decide, by decide, by decide⟩, by decide⟩

theorem witness_RankIsStrictTotalOrder :
    ((⟨true, 0, 0, 3⟩ : Rank).beats ⟨false, 1000, 9, 2⟩ = true
      ∧ (⟨false, 1000, 9, 2⟩ : Rank).beats ⟨false, 1000, 9, 5⟩ = true
      ∧ (⟨false, 1000, 8, 2⟩ : Rank).number ≠ (⟨false, 1000, 8, 5⟩ : Rank).number)
    ∧ ((at_ .queued).rot.service = .queued
      ∧ (claiming []).rot.service = .claiming
      ∧ (claiming []).rot.claimed = some ⟨930, 3900⟩
      ∧ (claiming []).rot.claimFlags = some ⟨false, false⟩
      ∧ filtering.unclaimed)
    ∧ ((⟨4, .fresh, 995, some 10, .queued, some 0x8000, 700, 3000, some 178, none, none⟩ : PeerEntry).state = .queued
      ∧ (⟨5, .fresh, 995, some 10, .claiming, some 0x8000, 930, 3900, some 170, some 3950, some ⟨some 42, 930, 3900, false, false⟩⟩ : PeerEntry).state = .claiming) :=
  ⟨⟨by decide, by decide, by decide⟩, ⟨by decide, by decide, by decide, by decide,
    by unfold State.unclaimed; decide⟩, ⟨by decide, by decide⟩⟩

set_option maxRecDepth 100000 in
theorem witness_AdmissionEvaluatedByEvents :
    ((tank 250).link.statusTick = some 9
      ∧ (tank 250).cfg.s ≤ 9 + 1
      ∧ (tank 250).rot.service = .queued
      ∧ (tank 250).rot.outstanding = none
      ∧ (¬ ((tank 250).rot.holdAsserted = true ∨ (tank 250).peerHold = true))
      ∧ (tank 250).link.dupAddress = false
      ∧ (tank 250).occupyingPeers + (tank 250).aheadPeers < (tank 250).cfg.w
      ∧ (after .statusTick (tank 250)).rot.lastRefusal = none
      ∧ (after .statusTick (tank 250)).rot.outstanding = some 1)
    ∧ ((after .statusTick (tank 249)).rot.lastRefusal = some .supply
      ∧ (after .statusTick (holding (tank 250))).rot.lastRefusal = some .hold
      ∧ (after .statusTick (rateGallery 180 185)).rot.lastRefusal = some .rate
      ∧ (after .statusTick contender).rot.lastRefusal = some .slots
      ∧ (after .statusTick { tank 250 with link := { (tank 250).link with dupAddress := true } }).rot.lastRefusal = some .silent)
    ∧ ((crowded).rot.service = .queued
      ∧ 4 ≤ crowded.link.queue.length
      ∧ (∀ f ∈ crowded.link.unstarted, f.isStatus = false)
      ∧ (after .statusTick crowded).rot.lastRefusal = some .silent)
    ∧ (goodFrame contender.cfg.nG ((Frame.yield 5).bytes 4) = some ⟨.yield, 4, [5]⟩
      ∧ 4 ≠ contender.ownNumber
      ∧ contender.link.receiver = true
      ∧ contender.link.transmitting = false
      ∧ readPayload .yield [5] ≠ none)
    ∧ (waitingClaim.rot.service = .queued
      ∧ waitingClaim.rot.outstanding ≠ none
      ∧ goodFrame waitingClaim.cfg.nG ((Frame.yield 5).bytes 4) = some ⟨.yield, 4, [5]⟩
      ∧ waitingClaim.link.receiver = true
      ∧ waitingClaim.link.transmitting = false)
    ∧ ((goodFrame (tank 250).cfg.nG ((Frame.status ⟨.filtering, 0, 0x8800, 640, 2800, 175, 10, 0⟩).bytes 0)).isSome = true
      ∧ (after (.frameReceived ((Frame.status ⟨.filtering, 0, 0x8800, 640, 2800, 175, 10, 0⟩).bytes 0)) (tank 250)).peerHold ≠ (tank 250).peerHold
      ∧ (tank 250).rot.holdAsserted = false)
    ∧ (fading.rot.service = .queued
      ∧ (fading.peer (4 : BitVec 4).toNat).isSome = true
      ∧ fading.listening = true
      ∧ (after (.peerAging 4) fading).peerHold ≠ fading.peerHold
      ∧ fading.rot.holdAsserted = false)
    ∧ ((contender.peer (0 : BitVec 4).toNat).isSome = true
      ∧ (after (.peerAging 0) contender).peerHold = contender.peerHold)
    ∧ (({ contender with now := 3951 } : State).rot.service = .queued
      ∧ ({ contender with now := 3951 } : State).listening = true
      ∧ (({ contender with now := 3951 } : State).peer (5 : BitVec 4).toNat).bind PeerEntry.occupancyUntil = some 3950
      ∧ 3950 < ({ contender with now := 3951 } : State).now) :=
  by decide

set_option maxRecDepth 100000 in
theorem witness_FailedTestsEndClaims :
    ((holding waitingClaim).link.statusTick = some 9
      ∧ (holding waitingClaim).cfg.s ≤ 9 + 1
      ∧ (holding waitingClaim).rot.service = .queued
      ∧ (holding waitingClaim).rot.outstanding = some 7
      ∧ (holding waitingClaim).rot.holdAsserted = true
      ∧ (holding waitingClaim).link.ordered
      ∧ (holding waitingClaim).link.unstarted.any Frame.isClaim = true)
    ∧ ((holding (wanting false)).link.unstarted.any Frame.isClaim = false)
    ∧ ((claiming []).link.statusTick = some 9
      ∧ (claiming []).cfg.s ≤ 9 + 1
      ∧ (claiming []).rot.service = .claiming
      ∧ (¬ ((claiming []).rot.holdAsserted = true ∨ (claiming []).peerHold = true))
      ∧ (claiming []).link.dupAddress = false
      ∧ (claiming []).washingPeers + (claiming []).outrankingClaimants < (claiming []).cfg.w
      ∧ (claiming []).link.queue.length ≤ 2)
    ∧ ((¬ ((claiming galleryPeers).washingPeers + (claiming galleryPeers).outrankingClaimants < (claiming galleryPeers).cfg.w))
      ∧ (claiming galleryPeers).link.queue.length < 4)
    ∧ ((claiming galleryPeers).rot.service = .claiming
      ∧ goodFrame (claiming galleryPeers).cfg.nG ((Frame.yield 5).bytes 4) = some ⟨.yield, 4, [5]⟩
      ∧ 4 ≠ (claiming galleryPeers).ownNumber
      ∧ (claiming galleryPeers).link.receiver = true
      ∧ (claiming galleryPeers).link.transmitting = false
      ∧ (after (.frameReceived ((Frame.yield 5).bytes 4)) (claiming galleryPeers)).peerHold ≠ (claiming galleryPeers).peerHold
      ∧ (claiming galleryPeers).rot.holdAsserted = false
      ∧ (after (.frameReceived ((Frame.yield 5).bytes 4)) (claiming galleryPeers)).rot.service = .queued)
    ∧ ((claiming fading.peers).rot.service = .claiming
      ∧ ((claiming fading.peers).peer (4 : BitVec 4).toNat).isSome = true
      ∧ (claiming fading.peers).listening = true
      ∧ (after (.peerAging 4) (claiming fading.peers)).peerHold ≠ (claiming fading.peers).peerHold
      ∧ (claiming fading.peers).rot.holdAsserted = false) :=
  ⟨⟨by decide, by decide, by decide, by decide, by decide, by unfold Link.ordered; decide, by decide⟩,
    by decide, ⟨by decide, by decide, by decide, by decide, by decide, by decide, by decide⟩, ⟨by decide,
    by decide⟩, ⟨by decide, by decide, by decide, by decide, by decide, by decide, by decide, by decide⟩,
    ⟨by decide, by decide, by decide, by decide, by decide⟩⟩

theorem witness_SettleExpiryDecides :
    ((claiming []).rot.service = .claiming
      ∧ (claiming []).rot.settleDeadline.any (· ≤ (claiming []).now) = true
      ∧ ready.washingPeers + ready.outrankingClaimants < ready.cfg.w
      ∧ ready.rot.service = .claiming
      ∧ ready.rot.settleDeadline.any (· ≤ ready.now) = true
      ∧ ready.ratePasses (ready.inService.toNat + ready.outrankingInService) = true
      ∧ ready.supplyPasses = true
      ∧ ready.noValveFault
      ∧ (∃ v, v ≠ .eff ∧ (ready.valve v).pos ≠ .closed))
    ∧ ((¬ ((claiming galleryPeers).washingPeers + (claiming galleryPeers).outrankingClaimants < (claiming galleryPeers).cfg.w ∧ (claiming galleryPeers).ratePasses ((claiming galleryPeers).inService.toNat + (claiming galleryPeers).outrankingInService) = true ∧ (claiming galleryPeers).supplyPasses = true))
      ∧ (claiming galleryPeers).link.dupAddress = false
      ∧ (claiming galleryPeers).link.queue.length ≤ 2) :=
  ⟨⟨by decide, by decide, by decide, by decide, by decide, by decide, by decide,
    by unfold State.noValveFault; intro v; cases v <;> decide, ⟨.inf, by decide, by decide⟩⟩,
    ⟨by decide, by decide, by decide⟩⟩

/-- The same for a station whose five valves other than EFF are closed: with EFF closed, closing and open. -/
theorem witness_SettleExpiryDecides_closed :
    ∀ s ∈ [posed [] ready, withValve .eff (fun r => { r with pos := .closing, drive := .energized }) (posed [] ready),
        posed [.eff] ready],
      s.rot.service = .claiming ∧ s.rot.settleDeadline.any (· ≤ s.now) = true
        ∧ s.washingPeers + s.outrankingClaimants < s.cfg.w
        ∧ s.ratePasses (s.inService.toNat + s.outrankingInService) = true ∧ s.supplyPasses = true
        ∧ (∀ v ∈ allValves, (s.valve v).pos ≠ .fault)
        ∧ (∀ v ∈ [Valve.inf, .drn, .ww, .air, .ftw], (s.valve v).pos = .closed ∧ Requester.sequencer ∉ (s.valve v).waiting)
        ∧ Requester.sequencer ∉ (s.valve .eff).waiting ∧ s.meas.ch2.status ≠ .valid := by
  decide

/-- The same with bed low as LOWER would begin, and of an entry that meets a valve in FAULT: with another still to close, and
with nothing to close, the FAULT on another valve than EFF or on EFF. -/
theorem witness_SettleExpiryDecides_fault :
    (∀ s ∈ [level 50 (posed [.eff] ready), failed .drn ready, failed .drn (posed [.eff] ready), failed .drn (posed [] ready),
        failed .eff (posed [] ready)],
        s.rot.service = .claiming ∧ s.rot.settleDeadline.any (· ≤ s.now) = true
        ∧ s.washingPeers + s.outrankingClaimants < s.cfg.w
        ∧ s.ratePasses (s.inService.toNat + s.outrankingInService) = true ∧ s.supplyPasses = true
        ∧ s.link.dupAddress = false ∧ s.link.queue.length ≤ 2 ∧ ∀ w ∈ allValves, Requester.sequencer ∉ (s.valve w).waiting)
    ∧ ((level 50 (posed [.eff] ready)).bedLow = true ∧ (level 50 (posed [.eff] ready)).meas.ch2.status = .valid)
    ∧ (∀ s ∈ [failed .drn ready, failed .drn (posed [.eff] ready)], (s.valve .drn).pos = .fault
        ∧ (s.valve .eff).pos ≠ .closed ∧ (s.valve .eff).pos ≠ .fault)
    ∧ (∀ s ∈ [failed .drn (posed [] ready), failed .eff (posed [] ready)],
        (∀ w ∈ allValves, (s.valve w).pos = .closed ∨ (s.valve w).pos = .fault) ∧ ∃ w ∈ allValves, (s.valve w).pos = .fault)
    ∧ ready.seq.fullBound = 0 ∧ ready.cfg.longestWash ≤ 65535
    ∧ (failed .drn (posed [] ready)).link.ordered :=
  ⟨by decide, by decide, by decide, by decide, by decide, by decide, by unfold Link.ordered; decide⟩

theorem witness_SequenceSecondCounts :
    (filtering.seq.activity = .idle)
    ∧ (aborting.seq.activity ≠ .idle
      ∧ aborting.seq.subStep ≠ some .running)
    ∧ ((phaseAt .lower [.eff] 598).seq.subStep = some .running
      ∧ (phaseAt .lower [.eff] 598).seq.activity = .lower
      ∧ ((phaseAt .lower [.eff] 598).bedLow = false ∨ (phaseAt .lower [.eff] 598).meas.ch2.status ≠ .valid)
      ∧ (phaseAt .lower [.eff] 598).seq.phaseElapsed + 1 < (phaseAt .lower [.eff] 598).cfg.tLower
      ∧ (phaseAt .lower [.eff] 598).seq.phaseElapsed < 65535)
    ∧ ((phaseAt .refill [.inf] 898).seq.activity = .refill
      ∧ ((phaseAt .refill [.inf] 898).bedHigh = false ∨ (phaseAt .refill [.inf] 898).meas.ch2.status ≠ .valid)
      ∧ (phaseAt .refill [.inf] 898).seq.phaseElapsed + 1 < (phaseAt .refill [.inf] 898).cfg.tRefill)
    ∧ ((phaseAt .airWater [.air, .drn, .ww] 238).seq.activity = .airWater
      ∧ (phaseAt .airWater [.air, .drn, .ww] 238).seq.phaseElapsed + 1 < (phaseAt .airWater [.air, .drn, .ww] 238).cfg.tAw)
    ∧ ((phaseAt .air [.air] 278).seq.blowerOn + 1 < (phaseAt .air [.air] 278).cfg.tAir
      ∧ (phaseAt .air [.air] 278).seq.phaseElapsed + 1 < (phaseAt .air [.air] 278).cfg.airMax
      ∧ (phaseAt .air [.air] 278).seq.activity = .air)
    ∧ (let s := { phaseAt .air [.air] 60 with seq := { place .air .running 60 with blowerOn := 40 } }
       (reworked (fun p => { p with tAir := 41 }) s).seq.blowerOn
         + (if (reworked (fun p => { p with tAir := 41 }) s).drive.blower.output then 1 else 0)
         < (reworked (fun p => { p with tAir := 41 }) s).cfg.tAir)
    ∧ ((rinsing .flowing 478 0 300).seq.activity = .rinse
      ∧ (rinsing .flowing 478 0 300).seq.subStep = some .running
      ∧ (rinsing .flowing 478 0 300).seq.rinseWater = some .flowing
      ∧ (rinsing .flowing 478 0 300).seq.rinseElapsed + 1 < (rinsing .flowing 478 0 300).cfg.tRinse
      ∧ ((rinsing .flowing 478 0 300).tankBelowFloor = false ∨ (rinsing .flowing 478 0 300).meas.ch4.status ≠ .valid)
      ∧ (rinsing .flowing 478 0 300).seq.phaseElapsed < 65535)
    ∧ ((rinsing .suspended 5 298 149).seq.rinseWater = some .suspended
      ∧ (rinsing .suspended 5 298 149).seq.suspTotal + 1 < (rinsing .suspended 5 298 149).cfg.tSusp
      ∧ ((rinsing .suspended 5 298 149).tankAtResume = false ∨ (rinsing .suspended 5 298 149).meas.ch4.status ≠ .valid))
    ∧ ((rinsing .resuming 5 298 150).seq.rinseWater = some .resuming
      ∧ (rinsing .resuming 5 298 150).seq.suspTotal + 1 < (rinsing .resuming 5 298 150).cfg.tSusp
      ∧ (rinsing .resuming 5 298 150).tankBelowFloor = false
      ∧ (rinsing .resuming 5 298 149).tankBelowFloor = true
      ∧ ((posed [.drn] (rinsing .resuming 5 298 149)).valve .ww).pos ≠ .fault)
    ∧ ((rinsing .flowing 478 0 149).meas.ch4.status = .valid
      ∧ ((rinsing .flowing 478 0 149).valve .ww).pos ≠ .fault
      ∧ (rinsing .flowing 478 0 149).tankBelowFloor = true
      ∧ (rinsing .flowing 478 0 149).seq.suspTotal < (rinsing .flowing 478 0 149).cfg.tSusp
      ∧ (rinsing .flowing 478 0 149).seq.rinseElapsed + 1 < (rinsing .flowing 478 0 149).cfg.tRinse)
    ∧ ((rinsing .suspended 5 298 220).tankAtResume = true
      ∧ ((posed [.drn] (rinsing .suspended 5 298 220)).valve .ww).pos ≠ .opened
      ∧ (posed [.drn] (rinsing .suspended 5 298 220)).tankAtResume = true) :=
  by decide

/-- The same of its clause on SAMPLE: a rinse suspended while flowing and while resuming, ended at T_susp, resumed by
the tank and by the loss of CH4. -/
theorem witness_SequenceSecondCounts_sample :
    (let s := rinsingOn .flowing 5 [.drn, .ww] (filled 683 300 0)
     let t := after (.sample .ch4 683) s
     s.startup.stage = .running ∧ s.seq.activity = .rinse ∧ s.seq.subStep = some .running
      ∧ (s.valve .ww).pos = .opened ∧ s.seq.suspTotal < s.cfg.tSusp ∧ s.seq.rinseWater = some .flowing
      ∧ s.tankBelowFloor = false ∧ t.tankBelowFloor = true ∧ t.meas.ch4.status = .valid)
    ∧ (let s := withValve .ww (fun r => { r with pos := .opening, drive := .energized, timer := 7 })
         (rinsingOn .resuming 5 [.drn] (filled 683 300 0))
       let t := after (.sample .ch4 683) s
       (s.valve .ww).pos = .opening ∧ s.seq.suspTotal < s.cfg.tSusp ∧ s.seq.rinseWater = some .resuming
        ∧ s.tankBelowFloor = false ∧ t.tankBelowFloor = true ∧ t.meas.ch4.status = .valid)
    ∧ ((rinsingOn .flowing 300 [.drn, .ww] (filled 683 300 0)).noValveFault
      ∧ (let s := rinsingOn .flowing 300 [.drn, .ww] (filled 683 300 0)
         let t := after (.sample .ch4 683) s
         (s.valve .drn).pos = .opened ∧ s.cfg.tSusp ≤ s.seq.suspTotal ∧ s.tankBelowFloor = false
          ∧ t.tankBelowFloor = true ∧ t.meas.ch4.status = .valid))
    ∧ (let s := rinsingOn .suspended 5 [.drn] (filled 3413 149 0)
       let t := after (.sample .ch4 3413) s
       (s.valve .ww).pos = .closed ∧ s.seq.rinseWater = some .suspended ∧ s.tankAtResume = false
        ∧ t.tankAtResume = true ∧ t.meas.ch4.status = .valid)
    ∧ (let s := withValve .ww (fun r => { r with pos := .closing, drive := .energized, timer := 7 })
         (rinsingOn .suspended 5 [.drn] (filled 683 149 2))
       let t := after (.sample .ch4 0) s
       (s.valve .ww).pos = .closing ∧ s.meas.ch4.status ≠ .fault ∧ t.meas.ch4.status = .fault) :=
  ⟨by decide, by decide, ⟨by unfold State.noValveFault; intro v; cases v <;> decide, by decide⟩, by decide, by decide⟩

theorem witness_LowerEndsIntoAir :
    ((phaseAt .lower [.eff] 599).seq.activity = .lower
      ∧ (phaseAt .lower [.eff] 599).seq.subStep = some .running
      ∧ (phaseAt .lower [.eff] 599).inPattern .lower
      ∧ ((phaseAt .lower [.eff] 599).bedLow = false ∨ (phaseAt .lower [.eff] 599).meas.ch2.status ≠ .valid)
      ∧ (phaseAt .lower [.eff] 599).cfg.tLower ≤ (phaseAt .lower [.eff] 599).seq.phaseElapsed + 1
      ∧ (phaseAt .lower [.eff] 599).seq.phaseElapsed < 65535)
    ∧ ((level 50 (phaseAt .lower [.eff] 10)).bedLow = true
      ∧ (level 50 (phaseAt .lower [.eff] 10)).meas.ch2.status = .valid
      ∧ (level 50 (phaseAt .lower [.eff] 10)).inPattern .lower)
    ∧ ((sampled2 (filled 683 51 0) (phaseAt .lower [.eff] 10)).inPattern .lower
      ∧ (sampled2 (filled 683 51 0) (phaseAt .lower [.eff] 10)).startup.stage = .running
      ∧ (sampled2 (filled 683 51 0) (phaseAt .lower [.eff] 10)).bedLow = false
      ∧ (after (.sample .ch2 683) (sampled2 (filled 683 51 0) (phaseAt .lower [.eff] 10))).bedLow = true
      ∧ (after (.sample .ch2 683) (sampled2 (filled 683 51 0) (phaseAt .lower [.eff] 10))).meas.ch2.status = .valid) :=
  ⟨⟨by decide, by decide, by unfold State.inPattern; intro v; cases v <;> decide, by decide, by decide,
    by decide⟩, ⟨by decide, by decide, by unfold State.inPattern; intro v; cases v <;> decide⟩,
    ⟨by unfold State.inPattern; intro v; cases v <;> decide, by decide⟩⟩

/-- The same where the last move of the entry ends it: INF's close with EFF open, and EFF's opening. -/
theorem witness_LowerEndsIntoAir_entry :
    (let s := level 50 (closingLast .lower .inf [.eff])
     s.startup.stage = .running ∧ s.rot.service = .washing ∧ s.seq.activity = .lower
      ∧ (s.valve .inf).pos = ValveEnd.moving .closedEnd ∧ (s.valve .inf).drive = .energized
      ∧ (∀ w ∈ allValves, (w ≠ .inf → (s.valve w).waiting = []) ∧ (s.valve w).pos ≠ .fault)
      ∧ s.seq.subStep = some .closing ∧ (s.valve .eff).pos = .opened ∧ s.bedLow = true ∧ s.meas.ch2.status = .valid)
    ∧ (let s := level 50 (entered .lower .eff [])
       s.startup.stage = .running ∧ s.rot.service = .washing ∧ s.seq.activity = .lower
        ∧ (s.valve .eff).pos = ValveEnd.moving .openEnd ∧ (s.valve .eff).drive = .energized
        ∧ (∀ w ∈ allValves, (w ≠ .eff → (s.valve w).waiting = []) ∧ (s.valve w).pos ≠ .fault)
        ∧ s.seq.subStep = some .opening ∧ s.bedLow = true ∧ s.meas.ch2.status = .valid) := by decide

theorem witness_AirEndsIntoNextPhase :
    (scoured.seq.activity = .air
      ∧ scoured.seq.subStep = some .running
      ∧ scoured.inPattern .air
      ∧ (∀ v, (scoured.valve v).waiting = [])
      ∧ scoured.drive.blower.mode = .pulsed
      ∧ scoured.seq.phaseElapsed < 65535
      ∧ scoured.cfg.tAir ≤ scoured.seq.blowerOn + (if scoured.drive.blower.output then 1 else 0)
      ∧ scoured.seq.airSkipped = false
      ∧ ceilDiv (scoured.cfg.tAir * (scoured.cfg.tOn + scoured.cfg.tOff)) scoured.cfg.tOn + 10 ≤ scoured.seq.phaseElapsed + 1
      ∧ 0 < scoured.cfg.tAw)
    ∧ (unpaused.seq.activity = .air
      ∧ unpaused.seq.subStep = some .running
      ∧ unpaused.inPattern .air
      ∧ unpaused.cfg.tOff = 0
      ∧ unpaused.drive.blower.mode = .continuous
      ∧ unpaused.drive.blower.pulse = none
      ∧ unpaused.cfg.tAw = 0
      ∧ unpaused.seq.airSkipped = false
      ∧ unpaused.cfg.tAir ≤ unpaused.seq.blowerOn + (if unpaused.drive.blower.output then 1 else 0)
      ∧ unpaused.seq.phaseElapsed < 65535) :=
  ⟨⟨by decide, by decide, by unfold State.inPattern; intro v; cases v <;> decide,
    by intro v; cases v <;> decide, by decide, by decide, by decide, by decide, by decide, by decide⟩,
    ⟨by decide, by decide, by unfold State.inPattern; intro v; cases v <;> decide, by decide, by decide,
    by decide, by decide, by decide, by decide, by decide⟩⟩

theorem witness_WaterPhasesEnd :
    ((airGiven (phaseAt .airWater [.drn, .ww] 239)).seq.subStep = some .running
      ∧ (airGiven (phaseAt .airWater [.drn, .ww] 239)).seq.phaseElapsed < 65535
      ∧ (airGiven (phaseAt .airWater [.drn, .ww] 239)).seq.activity = .airWater
      ∧ (airGiven (phaseAt .airWater [.drn, .ww] 239)).seq.airSkipped = true
      ∧ (airGiven (phaseAt .airWater [.drn, .ww] 239)).inPattern .airWater
      ∧ (∀ v, ((airGiven (phaseAt .airWater [.drn, .ww] 239)).valve v).waiting = [])
      ∧ (airGiven (phaseAt .airWater [.drn, .ww] 239)).cfg.tAw ≤ (airGiven (phaseAt .airWater [.drn, .ww] 239)).seq.phaseElapsed + 1
      ∧ ((airGiven (phaseAt .airWater [.drn, .ww] 239)).tankBelowFloor = false ∨ (airGiven (phaseAt .airWater [.drn, .ww] 239)).meas.ch4.status ≠ .valid))
    ∧ ((phaseAt .airWater [.air, .drn, .ww] 239).seq.subStep = some .running
      ∧ (phaseAt .airWater [.air, .drn, .ww] 239).seq.phaseElapsed < 65535
      ∧ (phaseAt .airWater [.air, .drn, .ww] 239).seq.activity = .airWater
      ∧ (phaseAt .airWater [.air, .drn, .ww] 239).seq.airSkipped = false
      ∧ (phaseAt .airWater [.air, .drn, .ww] 239).inPattern .airWater
      ∧ (phaseAt .airWater [.air, .drn, .ww] 239).cfg.tAw ≤ (phaseAt .airWater [.air, .drn, .ww] 239).seq.phaseElapsed + 1)
    ∧ ((rinsing .flowing 479 0 300).inPattern .rinse
      ∧ (rinsing .flowing 479 0 300).seq.rinseWater = some .flowing
      ∧ (rinsing .flowing 479 0 300).cfg.tRinse ≤ (rinsing .flowing 479 0 300).seq.rinseElapsed + 1)
    ∧ ((rinsing .suspended 5 299 149).noValveFault
      ∧ ((rinsing .suspended 5 299 149).valve .drn).pos = .opened
      ∧ ((rinsing .suspended 5 299 149).seq.rinseWater = some .suspended ∨ (rinsing .suspended 5 299 149).seq.rinseWater = some .resuming)
      ∧ (rinsing .suspended 5 299 149).cfg.tSusp ≤ (rinsing .suspended 5 299 149).seq.suspTotal + 1) :=
  ⟨⟨by decide, by decide, by decide, by decide, by unfold State.inPattern; intro v; cases v <;> decide,
    by intro v; cases v <;> decide, by decide, by decide⟩, ⟨by decide, by decide, by decide, by decide,
    by unfold State.inPattern; intro v; cases v <;> decide, by decide⟩,
    ⟨by unfold State.inPattern; intro v; cases v <;> decide, by decide, by decide⟩,
    ⟨by unfold State.noValveFault; intro v; cases v <;> decide, by decide, by decide, by decide⟩⟩

theorem witness_RefillEndsWash :
    ((phaseAt .refill [.inf] 899).rot.service = .washing
      ∧ (phaseAt .refill [.inf] 899).seq.activity = .refill
      ∧ (phaseAt .refill [.inf] 899).seq.subStep = some .running
      ∧ (phaseAt .refill [.inf] 899).inPattern .refill
      ∧ (∀ v, ((phaseAt .refill [.inf] 899).valve v).waiting = [])
      ∧ (phaseAt .refill [.inf] 899).seq.phaseElapsed < 65535
      ∧ (¬ ((phaseAt .refill [.inf] 899).bedHigh = true ∧ (phaseAt .refill [.inf] 899).meas.ch2.status = .valid))
      ∧ (phaseAt .refill [.inf] 899).cfg.tRefill ≤ (phaseAt .refill [.inf] 899).seq.phaseElapsed + 1)
    ∧ (((level 300 (phaseAt .refill [.inf] 10)).bedHigh = true ∧ (level 300 (phaseAt .refill [.inf] 10)).meas.ch2.status = .valid))
    ∧ ((sampled2 (filled 3413 299 0) (phaseAt .refill [.inf] 10)).inPattern .refill
      ∧ (sampled2 (filled 3413 299 0) (phaseAt .refill [.inf] 10)).startup.stage = .running
      ∧ (sampled2 (filled 3413 299 0) (phaseAt .refill [.inf] 10)).bedHigh = false
      ∧ (after (.sample .ch2 3413) (sampled2 (filled 3413 299 0) (phaseAt .refill [.inf] 10))).bedHigh = true
      ∧ (after (.sample .ch2 3413) (sampled2 (filled 3413 299 0) (phaseAt .refill [.inf] 10))).meas.ch2.status = .valid) :=
  ⟨⟨by decide, by decide, by decide, by unfold State.inPattern; intro v; cases v <;> decide,
    by intro v; cases v <;> decide, by decide, by decide, by decide⟩, by decide,
    ⟨by unfold State.inPattern; intro v; cases v <;> decide, by decide⟩⟩

/-- The same where the last move of the entry ends it: DRN's close with INF open, and INF's opening. -/
theorem witness_RefillEndsWash_entry :
    (let s := level 300 (closingLast .refill .drn [.inf])
     s.startup.stage = .running ∧ s.rot.service = .washing ∧ s.seq.activity = .refill
      ∧ (s.valve .drn).pos = ValveEnd.moving .closedEnd ∧ (s.valve .drn).drive = .energized
      ∧ (∀ w ∈ allValves, w ≠ .drn → (s.valve w).waiting = [] ∧ (w ≠ .inf → (s.valve w).pos = .closed))
      ∧ s.seq.subStep = some .closing ∧ (s.valve .inf).pos = .opened ∧ s.bedHigh = true ∧ s.meas.ch2.status = .valid)
    ∧ (let s := level 300 (entered .refill .inf [])
       s.startup.stage = .running ∧ s.rot.service = .washing ∧ s.seq.activity = .refill
        ∧ (s.valve .inf).pos = ValveEnd.moving .openEnd ∧ (s.valve .inf).drive = .energized
        ∧ (∀ w ∈ allValves, w ≠ .inf → (s.valve w).waiting = [] ∧ (s.valve w).pos = .closed)
        ∧ s.seq.subStep = some .opening ∧ s.bedHigh = true ∧ s.meas.ch2.status = .valid) := by decide

theorem witness_RipeningCountsAndEnds :
    (filtering.rip.step ≠ .running)
    ∧ ((ripening .verified 5).rip.step = .running
      ∧ (ripening .verified 5).rip.elapsed + 1 < (ripening .verified 5).cfg.tRmax
      ∧ (ripening .verified 5).rip.basis = some .verified
      ∧ (ripening .verified 5).meas.settling = none
      ∧ (ripening .verified 5).turbidityRipened = true
      ∧ (ripening .verified 5).rip.hold + 1 < (ripening .verified 5).cfg.tRhold
      ∧ (ripening .verified 5).rip.hold < 1800)
    ∧ (({ ripening .verified 5 with meas := { (ripening .verified 5).meas with decision := some 101 } } : State).turbidityRipened = false
      ∧ 0 < (ripening .verified 5).cfg.tRhold)
    ∧ (((ripening .onTime 5).rip.basis ≠ some .verified ∨ ((ripening .onTime 5).meas.settling ≠ none ∧ (ripening .onTime 5).rip.hold < (ripening .onTime 5).cfg.tRhold)))
    ∧ ((ripening .verified 599).rot.service = .ripening
      ∧ (ripening .verified 599).rip.step = .running
      ∧ (ripening .verified 599).turbidityRipened = true
      ∧ (ripening .verified 599).cfg.tRhold ≤ (ripening .verified 599).rip.hold + 1
      ∧ (ripening .verified 599).cfg.tRhold ≤ 1800
      ∧ ((ripening .verified 599).valve .ftw).pos = .opened)
    ∧ ((expiring .onTime).rip.basis = some .onTime
      ∧ (expiring .onTime).cfg.tRmax ≤ (expiring .onTime).rip.elapsed + 1
      ∧ ((expiring .onTime).valve .ftw).pos = .opened)
    ∧ ((expiring .verified).rip.basis = some .verified
      ∧ (expiring .verified).rip.hold + 1 < (expiring .verified).cfg.tRhold
      ∧ (expiring .verified).cfg.tRmax ≤ (expiring .verified).rip.elapsed + 1)
    ∧ (unripe.rip.step = .running
      ∧ unripe.rip.basis = some .verified
      ∧ unripe.rip.hold + 1 = unripe.cfg.tRhold
      ∧ unripe.cfg.tRmax ≤ unripe.rip.elapsed + 1
      ∧ unripe.meas.settling = none
      ∧ unripe.turbidityRipened = false
      ∧ 0 < unripe.cfg.tRhold) :=
  by decide

theorem witness_RipenedFilterReturns :
    ending.startup.stage = .running
      ∧ ending.rot.service = .ripening
      ∧ ending.rip.step = .ending
      ∧ (ending.valve .ftw).pos = .closing
      ∧ (ending.valve .ftw).drive = .energized
      ∧ (ending.valve .eff).pos = .closed
      ∧ ending.rot.manual = false :=
  by decide

theorem witness_MoveRequestByPosition :
    (((stuck.valve .eff).pos = .fault ∨ (stuck.valve .eff).pos = ValveEnd.atRest .openEnd))
    ∧ (((shut.valve .eff).pos = ValveEnd.atRest (ValveEnd.other .openEnd) ∨ (shut.valve .eff).pos = .unknown))
    ∧ ((ending.valve .ftw).pos = ValveEnd.moving .closedEnd)
    ∧ ((ending.valve .ftw).pos = ValveEnd.moving (ValveEnd.other .openEnd)) :=
  by decide

theorem witness_TargetSwitchCompletesMove :
    (opening.startup.stage = .running
      ∧ opening.out
      ∧ (opening.valve .eff).pos = ValveEnd.moving .openEnd
      ∧ (opening.valve .eff).drive = .energized
      ∧ (opening.switches .eff).at (ValveEnd.other .openEnd) = false)
    ∧ ((entering .air).startup.stage = .running
      ∧ (entering .air).rot.service = .washing
      ∧ (entering .air).seq.activity = .air
      ∧ (entering .air).airInterlock
      ∧ ((entering .air).valve .eff).drive = .energized
      ∧ (∀ w, w ≠ .eff → ((entering .air).valve w).waiting = [])
      ∧ (entering .air).seq.subStep = some .closing
      ∧ ((entering .air).valve .eff).pos = .closing
      ∧ Valve.eff ∉ phaseOpens (entering .air).seq.airSkipped .air
      ∧ (∀ w ∈ phaseOpens (entering .air).seq.airSkipped .air, ((entering .air).valve w).pos ≠ .fault)
      ∧ (∃ w ∈ phaseOpens (entering .air).seq.airSkipped .air, ((entering .air).valve w).pos ≠ .opened))
    ∧ ((entered .air .air []).startup.stage = .running
      ∧ (entered .air .air []).rot.service = .washing
      ∧ (entered .air .air []).seq.activity = .air
      ∧ (entered .air .air []).airInterlock
      ∧ ((entered .air .air []).valve .air).drive = .energized
      ∧ (∀ w, w ≠ .air → ((entered .air .air []).valve w).waiting = [])
      ∧ (entered .air .air []).seq.subStep = some .opening
      ∧ ((entered .air .air []).valve .air).pos = .opening
      ∧ Valve.air ∈ phaseOpens (entered .air .air []).seq.airSkipped .air
      ∧ 0 < (entered .air .air []).cfg.tOff)
    ∧ ((entered .airWater .ww [.air, .drn]).startup.stage = .running
      ∧ (entered .airWater .ww [.air, .drn]).rot.service = .washing
      ∧ (entered .airWater .ww [.air, .drn]).seq.activity = .airWater
      ∧ (entered .airWater .ww [.air, .drn]).airInterlock
      ∧ ((entered .airWater .ww [.air, .drn]).valve .ww).drive = .energized
      ∧ (∀ w, w ≠ .ww → ((entered .airWater .ww [.air, .drn]).valve w).waiting = [])
      ∧ (entered .airWater .ww [.air, .drn]).seq.subStep = some .opening
      ∧ ((entered .airWater .ww [.air, .drn]).valve .ww).pos = .opening
      ∧ Valve.ww ∈ phaseOpens (entered .airWater .ww [.air, .drn]).seq.airSkipped .airWater
      ∧ (entered .airWater .ww [.air, .drn]).seq.airSkipped = false)
    ∧ ((entered .rinse .ww [.drn]).startup.stage = .running
      ∧ (entered .rinse .ww [.drn]).rot.service = .washing
      ∧ (entered .rinse .ww [.drn]).seq.activity = .rinse
      ∧ (entered .rinse .ww [.drn]).airInterlock
      ∧ ((entered .rinse .ww [.drn]).valve .ww).drive = .energized
      ∧ (∀ w, w ≠ .ww → ((entered .rinse .ww [.drn]).valve w).waiting = [])
      ∧ (entered .rinse .ww [.drn]).seq.subStep = some .opening
      ∧ ((entered .rinse .ww [.drn]).valve .ww).pos = .opening
      ∧ ((entered .rinse .ww [.drn]).tankBelowFloor = false ∨ (entered .rinse .ww [.drn]).meas.ch4.status ≠ .valid))
    ∧ ((ripeningEntry .closing .eff .closing).startup.stage = .running
      ∧ (ripeningEntry .closing .eff .closing).rot.service = .ripening
      ∧ ((ripeningEntry .closing .eff .closing).valve .eff).drive = .energized
      ∧ (∀ w, w ≠ .eff → ((ripeningEntry .closing .eff .closing).valve w).waiting = [])
      ∧ (ripeningEntry .closing .eff .closing).rip.step = .closing
      ∧ ((ripeningEntry .closing .eff .closing).valve .eff).pos = .closing
      ∧ Valve.eff ∈ ripeningCloses
      ∧ (∃ w ∈ ripeningOpens, ((ripeningEntry .closing .eff .closing).valve w).pos ≠ .opened ∧ ((ripeningEntry .closing .eff .closing).valve w).pos ≠ .fault))
    ∧ ((ripeningEntry .opening .ftw .opening).startup.stage = .running
      ∧ (ripeningEntry .opening .ftw .opening).rot.service = .ripening
      ∧ ((ripeningEntry .opening .ftw .opening).valve .ftw).drive = .energized
      ∧ (∀ w, w ≠ .ftw → ((ripeningEntry .opening .ftw .opening).valve w).waiting = [])
      ∧ (ripeningEntry .opening .ftw .opening).rip.step = .opening
      ∧ ((ripeningEntry .opening .ftw .opening).valve .ftw).pos = .opening
      ∧ Valve.ftw ∈ ripeningOpens) :=
  ⟨⟨by decide, by unfold State.out; decide, by decide, by decide, by decide⟩, ⟨by decide, by decide, by decide,
    by unfold State.airInterlock; decide, by decide, by intro w; cases w <;> decide, by decide, by decide,
    by decide, by decide, ⟨.air, by decide, by decide⟩⟩, ⟨by decide, by decide, by decide,
    by unfold State.airInterlock; decide, by decide, by intro w; cases w <;> decide, by decide, by decide,
    by decide, by decide⟩, ⟨by decide, by decide, by decide, by unfold State.airInterlock; decide, by decide,
    by intro w; cases w <;> decide, by decide, by decide, by decide, by decide⟩, ⟨by decide, by decide,
    by decide, by unfold State.airInterlock; decide, by decide, by intro w; cases w <;> decide, by decide,
    by decide, by decide⟩, ⟨by decide, by decide, by decide, by intro w; cases w <;> decide, by decide,
    by decide, by decide, ⟨.inf, by decide, by decide, by decide⟩⟩, ⟨by decide, by decide, by decide,
    by intro w; cases w <;> decide, by decide, by decide, by decide⟩⟩

/-- The same where a completed opening starts settling: of EFF in FILTERING and in LOWER's entry. -/
theorem witness_TargetSwitchCompletesMove_settling :
    (reopening.startup.stage = .running ∧ reopening.rot.service = .filtering
      ∧ (reopening.valve .eff).pos = ValveEnd.moving .openEnd ∧ (reopening.valve .eff).drive = .energized
      ∧ (reopening.switches .eff).at (ValveEnd.other .openEnd) = false)
    ∧ ((entered .lower .eff []).rot.service = .washing
      ∧ (entered .lower .eff []).seq.activity = .lower
      ∧ (entered .lower .eff []).airInterlock
      ∧ ((entered .lower .eff []).valve .eff).drive = .energized
      ∧ (∀ w, w ≠ .eff → ((entered .lower .eff []).valve w).waiting = [])
      ∧ (entered .lower .eff []).seq.subStep = some .opening
      ∧ ((entered .lower .eff []).valve .eff).pos = .opening
      ∧ (entered .lower .eff []).meas.ch2.status ≠ .valid) :=
  ⟨by decide, by decide, by decide, by unfold State.airInterlock; decide, by decide, by intro w; cases w <;> decide,
    by decide, by decide, by decide⟩

/-- The hypotheses on a move that completes in a wash, of one state. -/
abbrev oneMove (v : Valve) (e : ValveEnd) (s : State) : Prop :=
  s.startup.stage = .running ∧ s.rot.service = .washing
    ∧ (s.drive.blower.output = true → (s.valve .air).pos = .opened ∧ s.drive.blower.fault = false)
    ∧ (s.valve v).pos = ValveEnd.moving e ∧ (s.valve v).drive = .energized
/-- The same with no other move waited for. -/
abbrev lastMove (v : Valve) (e : ValveEnd) (s : State) : Prop :=
  oneMove v e s ∧ ∀ w ∈ allValves, w ≠ v → (s.valve w).waiting = []

/-- The same of an entry that completes with its last close, its opens OPEN already: LOWER, RINSE after AIR_WATER, and
AIR_WATER after a blower fault, whose last move is AIR's close; and of a rinse suspended or ended at that completion. -/
theorem witness_TargetSwitchCompletesMove_entries :
    (let s := closingLast .lower .inf [.eff]
     lastMove .inf .closedEnd s ∧ s.seq.activity = .lower ∧ s.seq.subStep = some .closing
      ∧ (s.valve .eff).pos = .opened ∧ s.meas.ch2.status ≠ .valid)
    ∧ (let s := closingLast .refill .drn [.inf]
       lastMove .drn .closedEnd s ∧ s.seq.activity = .refill ∧ s.seq.subStep = some .closing
        ∧ (s.valve .inf).pos = .opened ∧ s.meas.ch2.status ≠ .valid)
    ∧ (lastMove .air .closedEnd airClosing ∧ airClosing.seq.activity = .airWater ∧ airClosing.seq.subStep = some .opening
        ∧ airClosing.seq.airSkipped = true)
    ∧ (lastMove .air .closedEnd (rinseClosing 0 300) ∧ (rinseClosing 0 300).seq.activity = .rinse
        ∧ (rinseClosing 0 300).seq.subStep = some .closing
        ∧ (∀ w ∈ phaseOpens false .rinse, ((rinseClosing 0 300).valve w).pos = .opened)
        ∧ (rinseClosing 0 300).tankBelowFloor = false)
    ∧ (∀ susp ∈ [299, 300], lastMove .air .closedEnd (rinseClosing susp 149) ∧ (rinseClosing susp 149).seq.activity = .rinse
        ∧ (rinseClosing susp 149).seq.subStep = some .closing
        ∧ (∀ w ∈ phaseOpens false .rinse, ((rinseClosing susp 149).valve w).pos = .opened)
        ∧ (rinseClosing susp 149).tankBelowFloor = true ∧ (rinseClosing susp 149).meas.ch4.status = .valid
        ∧ (∀ w ∈ allValves, ((rinseClosing susp 149).valve w).pos ≠ .fault)
        ∧ (rinseClosing susp 149).cfg.tSusp = 300 ∧ (rinseClosing susp 149).seq.suspTotal = susp) :=
  ⟨by decide, by decide, by decide, by decide, by decide⟩

/-- The same of a move that is not the last of its step, in the abort path, CLOSING and OPENING; of re-driven EFF, WW and
AIR in RUNNING; and of WW's opening in a RESUMING rinse. -/
theorem witness_TargetSwitchCompletesMove_waits :
    (let s := driven .ww .closing aborting
     oneMove .eff .closedEnd s ∧ s.seq.activity = .abortPath ∧ Requester.sequencer ∈ (s.valve .ww).waiting)
    ∧ (let s := driven .inf .closing (entering .air)
       oneMove .eff .closedEnd s ∧ s.seq.activity = .air ∧ s.seq.subStep = some .closing
        ∧ Valve.inf ∉ phaseOpens s.seq.airSkipped .air ∧ Requester.sequencer ∈ (s.valve .inf).waiting)
    ∧ (let s := driven .ww .opening (entered .airWater .drn [.air])
       oneMove .drn .openEnd s ∧ s.seq.activity = .airWater ∧ s.seq.subStep = some .opening
        ∧ Valve.ww ∈ phaseOpens s.seq.airSkipped .airWater ∧ Requester.sequencer ∈ (s.valve .ww).waiting)
    ∧ (let s := airGiven (driven .air .closing (entered .airWater .drn [.ww]))
       oneMove .drn .openEnd s ∧ s.seq.activity = .airWater ∧ s.seq.subStep = some .opening
        ∧ Requester.sequencer ∈ (s.valve .air).waiting)
    ∧ (let s := driven .eff .opening (phaseAt .lower [] 10)
       oneMove .eff .openEnd s ∧ s.seq.activity = .lower ∧ s.seq.subStep = some .running)
    ∧ (let s := driven .drn .opening (rinsingOn .resuming 5 [] (filled 683 300 0))
       oneMove .drn .openEnd s ∧ s.seq.activity = .rinse ∧ s.seq.subStep = some .running
        ∧ s.seq.rinseWater = some .resuming ∧ (s.valve .ww).pos ≠ .opened)
    ∧ (let s := driven .ww .opening (rinsingOn .resuming 5 [.drn] (filled 683 300 0))
       oneMove .ww .openEnd s ∧ s.seq.activity = .rinse ∧ s.seq.subStep = some .running
        ∧ s.seq.rinseWater = some .resuming)
    ∧ (let s := driven .air .opening (blowing ⟨.pulsed, false, some ⟨true, 5⟩, 0, true, false⟩)
       oneMove .air .openEnd s ∧ s.seq.activity = .air ∧ s.seq.subStep = some .running
        ∧ s.drive.blower.calls = true) :=
  ⟨by decide, by decide, by decide, by decide, by decide, by decide, by decide, by decide⟩

/-- The same of a ripening: a move that is not the last of its step, and the last close with INF and FTW open. -/
theorem witness_TargetSwitchCompletesMove_ripening :
    (let s := driven .drn .closing (ripeningEntry .closing .eff .closing)
     s.startup.stage = .running ∧ s.rot.service = .ripening ∧ (s.valve .eff).pos = ValveEnd.moving .closedEnd
      ∧ (s.valve .eff).drive = .energized ∧ s.rip.step = .closing
      ∧ ∃ w ∈ ripeningCloses, w ≠ .eff ∧ Requester.sequencer ∈ (s.valve w).waiting)
    ∧ (let s := driven .inf .opening (ripeningEntry .opening .ftw .opening)
       s.rot.service = .ripening ∧ (s.valve .ftw).pos = ValveEnd.moving .openEnd ∧ s.rip.step = .opening
        ∧ ∃ w ∈ ripeningOpens, w ≠ .ftw ∧ Requester.sequencer ∈ (s.valve w).waiting)
    ∧ (let s := driven .ww .closing (driven .ftw .closing ending)
       s.rot.service = .ripening ∧ (s.valve .ww).pos = ValveEnd.moving .closedEnd ∧ s.rip.step = .ending
        ∧ Requester.sequencer ∈ (s.valve .ftw).waiting)
    ∧ (let s := driven .ww .closing (ripening .verified 5)
       s.rot.service = .ripening ∧ (s.valve .ww).pos = ValveEnd.moving .closedEnd ∧ s.rip.step = .running)
    ∧ (let s := ripeningMove .closing .eff .closing [.inf, .ftw]
       s.rot.service = .ripening ∧ (s.valve .eff).pos = ValveEnd.moving .closedEnd ∧ s.rip.step = .closing
        ∧ (∀ w ∈ allValves, w ≠ .eff → (s.valve w).waiting = [])
        ∧ ∀ w ∈ ripeningOpens, (s.valve w).pos = .opened) := by decide

theorem witness_ValveFaultsAndDrift :
    (opening.startup.stage = .running
      ∧ (opening.valve .eff).pos ≠ .fault
      ∧ (opening.out ∨ (opening.rot.service = .filtering ∧ (Valve.eff = .inf ∨ Valve.eff = .eff)))
      ∧ (opening.valve .eff).pos = ValveEnd.moving .openEnd
      ∧ (opening.valve .eff).drive = .energized
      ∧ (opening.switches .eff).at .openEnd = false
      ∧ opening.cfg.travel .eff ≤ (opening.valve .eff).timer + 1)
    ∧ (filtering.startup.stage = .running
      ∧ filtering.rot.service = .filtering
      ∧ (lost 941).startup.stage = .running
      ∧ ((lost 941).valve .eff).pos = ValveEnd.atRest .openEnd
      ∧ ((lost 941).valve .eff).commanded = some .openEnd
      ∧ ((lost 941).valve .eff).lastDrift = some 941
      ∧ (lost 941).now - 941 < 60
      ∧ (lost 941).rot.service = .filtering)
    ∧ (((lost 940).valve .eff).lastDrift = none ∨ ∃ at_, ((lost 940).valve .eff).lastDrift = some at_ ∧ 60 ≤ (lost 940).now - at_)
    ∧ ((at_ .queued).startup.stage = .running
      ∧ ((at_ .queued).valve .inf).pos ≠ .fault
      ∧ (at_ .queued).rot.service = .queued
      ∧ (at_ .queued).rot.outstanding = none)
    ∧ (waitingClaim.startup.stage = .running
      ∧ (waitingClaim.valve .eff).pos ≠ .fault
      ∧ waitingClaim.rot.service = .queued
      ∧ waitingClaim.rot.outstanding = some 7
      ∧ waitingClaim.link.ordered
      ∧ waitingClaim.link.unstarted.any Frame.isClaim = true)
    ∧ ((wanting false).startup.stage = .running
      ∧ ((wanting false).valve .eff).pos ≠ .fault
      ∧ (wanting false).rot.service = .queued
      ∧ (wanting false).rot.outstanding = some 7
      ∧ (wanting false).link.ordered
      ∧ (wanting false).link.unstarted.any Frame.isClaim = false)
    ∧ ((claiming []).startup.stage = .running
      ∧ ((claiming []).valve .eff).pos ≠ .fault
      ∧ (claiming []).rot.service = .claiming
      ∧ (claiming []).link.dupAddress = false
      ∧ (claiming []).link.queue = [])
    ∧ ((ripening .verified 5).startup.stage = .running
      ∧ ((ripening .verified 5).valve .ftw).pos ≠ .fault
      ∧ (ripening .verified 5).rot.service = .ripening
      ∧ ((ripening .verified 5).valve .ftw).commanded = some .openEnd)
    ∧ ((ripening .verified 5).startup.stage = .running
      ∧ ((ripening .verified 5).valve .drn).pos ≠ .fault
      ∧ (ripening .verified 5).rip.step = .running
      ∧ (Valve.drn = .drn ∨ Valve.drn = .ww ∨ Valve.drn = .air))
    ∧ (filtering.startup.stage = .running
      ∧ (filtering.valve .ww).pos ≠ .fault
      ∧ filtering.rot.service = .filtering
      ∧ Valve.ww ≠ .inf
      ∧ Valve.ww ≠ .eff)
    ∧ (filtering.startup.stage = .running
      ∧ (filtering.valve .inf).pos ≠ .fault
      ∧ filtering.rot.service = .filtering
      ∧ (Valve.inf = .inf ∨ Valve.inf = .eff)
      ∧ (filtering.valve .ftw).commanded ≠ some .openEnd)
    ∧ (∀ s ∈ [opening, filtering, lost 941, lost 940, at_ .queued, waitingClaim, wanting false, claiming [],
        ripening .verified 5], s.ripeningConfined) :=
  ⟨⟨by decide, by decide, by unfold State.out; decide, by decide, by decide, by decide, by decide⟩, ⟨by decide,
    by decide, by decide, by decide, by decide, by decide, by decide, by decide⟩, .inr ⟨940, by decide,
    by decide⟩, ⟨by decide, by decide, by decide, by decide⟩, ⟨by decide, by decide, by decide,
    by decide, by unfold Link.ordered; decide, by decide⟩, ⟨by decide, by decide, by decide, by decide,
    by unfold Link.ordered; decide, by decide⟩, ⟨by decide, by decide, by decide, by decide, by decide⟩,
    ⟨by decide, by decide, by decide, by decide⟩, ⟨by decide, by decide, by decide, by decide⟩, ⟨by decide,
    by decide, by decide, by decide, by decide⟩, ⟨by decide, by decide, by decide, by decide, by decide⟩,
    by unfold State.ripeningConfined; decide⟩

/-- The same of DRN, WW and AIR in the entry and the end of a ripening: with a move still to end, and as the last close of
CLOSING. -/
theorem witness_ValveFaultsAndDrift_ripening :
    (∀ v ∈ [Valve.drn, .ww, .air],
      (let s := overdue v (driven .eff .closing (ripeningEntry .closing v .closing))
       s.startup.stage = .running ∧ s.rot.service = .ripening ∧ s.rip.step = .closing
        ∧ (s.valve v).pos = ValveEnd.moving .closedEnd ∧ (s.valve v).drive = .energized
        ∧ (s.switches v).at .closedEnd = false ∧ s.cfg.travel v ≤ (s.valve v).timer + 1
        ∧ ∃ w ∈ ripeningCloses, w ≠ v ∧ Requester.sequencer ∈ (s.valve w).waiting)
      ∧ (let s := overdue v (ripeningEntry .closing v .closing)
         s.startup.stage = .running ∧ s.rot.service = .ripening ∧ s.rip.step = .closing
          ∧ (s.valve v).pos = ValveEnd.moving .closedEnd ∧ (s.valve v).drive = .energized
          ∧ (s.switches v).at .closedEnd = false ∧ s.cfg.travel v ≤ (s.valve v).timer + 1
          ∧ (∀ w ∈ ripeningCloses, ¬ (w ≠ v ∧ Requester.sequencer ∈ (s.valve w).waiting))
          ∧ ∃ w ∈ ripeningOpens, (s.valve w).pos ≠ .opened ∧ (s.valve w).pos ≠ .fault)
      ∧ (let s := ripeningEntry .opening .ftw .opening
         (s.valve v).pos ≠ .fault ∧ s.rip.step = .opening
          ∧ ∃ w ∈ ripeningOpens, w ≠ v ∧ Requester.sequencer ∈ (s.valve w).waiting)
      ∧ (let s := driven .ftw .closing ending
         (s.valve v).pos ≠ .fault ∧ s.rip.step = .ending ∧ v ≠ .ftw ∧ Requester.sequencer ∈ (s.valve .ftw).waiting)) := by
  decide

/-- A valve re-driven once already in the minute before. -/
def lostOnce (v : Valve) (s : State) : State := withValve v (fun r => { r with lastDrift := some (s.now - 40) }) s

theorem witness_FaultAbortsWash_commands :
    (travelling.faultsBy .drn (.travelTimeout .drn) .stuck)
    ∧ ((withValve .drn (fun r => { r with redrive := true }) travelling).faultsBy .drn (.travelTimeout .drn) .drift)
    ∧ (aborting.faultsBy .eff (.feedbackFault .eff) .feedback)
    ∧ ((lostOnce .eff (phaseAt .lower [.eff] 10)).faultsBy .eff (.drift .eff) .drift)
    ∧ ((lostOnce .inf aborting).faultsBy .inf (.drift .inf) .drift) :=
  ⟨.inl ⟨.openEnd, by decide⟩, .inl ⟨.openEnd, by decide⟩, .inr (.inl (by decide)),
    .inr (.inr ⟨.openEnd, 960, by decide⟩), .inr (.inr ⟨.closedEnd, 960, by decide⟩)⟩

theorem witness_FaultAbortsWash :
    (travelling.startup.stage = .running ∧ travelling.rot.service = .washing ∧ travelling.seq.activity ≠ .idle
      ∧ travelling.seq.activity ≠ .abortPath
      ∧ ∃ w, w ≠ .drn ∧ (travelling.valve w).pos ≠ .closed ∧ (travelling.valve w).pos ≠ .fault)
    ∧ (let s := lostOnce .eff (phaseAt .lower [.eff] 10)
       s.startup.stage = .running ∧ s.rot.service = .washing ∧ s.seq.activity ≠ .idle ∧ s.seq.activity ≠ .abortPath
        ∧ s.rip.step = .idle
        ∧ ∀ w ∈ allValves, w ≠ .eff → ((s.valve w).pos = .closed ∨ (s.valve w).pos = .fault)
          ∧ Requester.sequencer ∉ (s.valve w).waiting)
    ∧ (aborting.startup.stage = .running ∧ aborting.rot.service = .washing ∧ aborting.seq.activity = .abortPath
      ∧ Requester.sequencer ∈ ((driven .ww .closing aborting).valve .ww).waiting
      ∧ (∀ w ∈ allValves, w ≠ .eff → Requester.sequencer ∉ (aborting.valve w).waiting)
      ∧ aborting.seq.abortCause ≠ none ∧ (aborting.valve .eff).pos = .closing ∧ (aborting.valve .eff).drive = .energized
      ∧ (∀ w ∈ allValves, w ≠ .eff → (aborting.valve w).waiting = []) ∧ aborting.link.dupAddress = false
      ∧ aborting.link.queue.length ≤ 2 ∧ aborting.rip.step = .idle) :=
  ⟨⟨by decide, by decide, by decide, by decide, .eff, by decide⟩, by decide, by decide⟩

/-- The same of the last close of an entry whose opens meet a valve in FAULT: with another to close, and with none. -/
theorem witness_FaultAbortsWash_entry :
    (∀ s ∈ [failed .drn (closingLast .airWater .inf [.ww, .air]), failed .eff (closingLast .lower .inf [])],
        s.startup.stage = .running ∧ s.rot.service = .washing ∧ s.seq.activity ≠ .idle ∧ s.seq.activity ≠ .abortPath
        ∧ s.seq.subStep = some .closing ∧ Valve.inf ∉ phaseOpens s.seq.airSkipped s.seq.activity
        ∧ (s.valve .inf).pos = .closing ∧ (s.valve .inf).drive = .energized
        ∧ (∀ w ∈ allValves, w ≠ .inf → (s.valve w).waiting = [])
        ∧ (∃ w ∈ phaseOpens s.seq.airSkipped s.seq.activity, (s.valve w).pos = .fault) ∧ s.rip.step = .idle)
    ∧ ((failed .drn (closingLast .airWater .inf [.ww, .air])).valve .ww).pos = .opened
    ∧ (let s := failed .eff (closingLast .lower .inf [])
       ∀ w ∈ allValves, w ≠ .inf →
        (s.valve w).pos = .fault ∨ w ∉ phaseOpens s.seq.airSkipped s.seq.activity ∧ (s.valve w).pos = .closed) := by decide

/-- The hypotheses on valves and the air interlock, of one state. -/
abbrev driving (s : State) : Prop :=
  s.startup.stage = .running ∧ (s.drive.blower.output = true → (s.valve .air).pos = .opened ∧ s.drive.blower.fault = false)
    ∧ (∀ v ∈ allValves, ∀ e ∈ [ValveEnd.openEnd, .closedEnd], (s.valve v).pos = ValveEnd.moving e → (s.switches v).at e = false)
    ∧ (∀ v ∈ allValves, (s.valve v).drive ≠ .idle → (s.valve v).timer + 1 < s.cfg.travel v)
    ∧ (s.drive.blower.output = true → s.pins.pressure = false →
        s.drive.blower.feedbackSeen = false ∧ s.drive.blower.feedbackTimer + 1 < 10)
    ∧ (s.drive.blower.output = false → s.drive.airEndStop = some s.now →
        s.pins.pressure = true ∨ s.drive.blower.feedbackSeen = true ∨ s.drive.blower.feedbackTimer + 1 < 10
          ∨ s.drive.blower.fault = true)

theorem witness_DriveSecondTimesMoves :
    (driving reversing ∧ reversing.drive.blower.pulse = none ∧ (reversing.valve .eff).drive = .pause)
    ∧ (driving (rinseEntered 8 false) ∧ driving (rinseEntered 9 true)
      ∧ (rinseEntered 9 false).drive.airEndStop = some (rinseEntered 9 false).now
      ∧ (rinseEntered 9 false).drive.blower.fault = false)
    ∧ (∀ s ∈ [blowing ⟨.pulsed, true, some ⟨true, 18⟩, 8, false, false⟩, blowing ⟨.pulsed, true, some ⟨true, 19⟩, 8, false, false⟩,
        blowing ⟨.pulsed, false, some ⟨false, 8⟩, 5, false, false⟩, blowing ⟨.pulsed, false, some ⟨false, 9⟩, 5, false, false⟩],
        driving s ∧ s.drive.blower.mode = .pulsed
          ∧ (s.drive.blower.output = true ↔ s.drive.blower.pulse.any (fun p => p.on) = true
              ∧ (s.valve .air).pos = .opened ∧ s.drive.blower.fault = false)
          ∧ s.cfg.tOn = 20 ∧ s.cfg.tOff = 10)
    ∧ (let s := (washing .airWater [.drn]).setBlower ⟨.pulsed, false, some ⟨false, 9⟩, 5, false, false⟩
       driving s ∧ (s.valve .air).pos ≠ .opened)
    ∧ (turned.startup.stage = .running ∧ turned.out ∧ (turned.valve .eff).drive = .pause ∧ (turned.valve .eff).timer = 0
      ∧ (turned.valve .eff).redrive = false ∧ (turned.valve .eff).pos = ValveEnd.moving .openEnd
      ∧ (turned.switches .eff).at .openEnd = true)
    ∧ (∀ seen, let s := blowing ⟨.pulsed, true, some ⟨true, 3⟩, 9, seen, false⟩
        s.startup.stage = .running ∧ s.flagsTrue ∧ s.airInterlock ∧ s.noValveFault ∧ (∀ v, (s.valve v).drive = .idle)
          ∧ s.drive.blower.output = true ∧ s.pins.pressure = false ∧ 9 ≤ s.drive.blower.feedbackTimer
          ∧ s.drive.blower.feedbackSeen = seen) :=
  ⟨by decide, ⟨by decide, by decide, by decide⟩, by decide, by decide, ⟨by decide, by unfold State.out; decide, by decide⟩, fun seen => ⟨by cases seen <;> decide,
    ⟨⟨fun h => absurd h (by cases seen <;> decide), fun ⟨ch, h⟩ => absurd h (by cases seen <;> cases ch <;> decide)⟩,
      ⟨fun h => absurd h (by cases seen <;> decide), fun ⟨v, h⟩ => absurd h (by cases seen <;> cases v <;> decide)⟩⟩,
    by unfold State.airInterlock; cases seen <;> decide,
    by unfold State.noValveFault; intro v; cases seen <;> cases v <;> decide,
    by intro v; cases seen <;> cases v <;> decide, by cases seen <;> decide⟩⟩

theorem witness_BlowerPulsesAndFeedback :
    ((blowing ⟨.pulsed, true, some ⟨true, 19⟩, 0, true, false⟩).drive.blower.mode = .pulsed
      ∧ (blowing ⟨.pulsed, true, some ⟨true, 19⟩, 0, true, false⟩).drive.blower.pulse = some ⟨true, 19⟩
      ∧ (blowing ⟨.pulsed, true, some ⟨true, 19⟩, 0, true, false⟩).cfg.tOn ≤ 19 + 1)
    ∧ ((blowing ⟨.pulsed, false, some ⟨false, 9⟩, 5, false, false⟩).drive.blower.pulse = some ⟨false, 9⟩
      ∧ (blowing ⟨.pulsed, false, some ⟨false, 9⟩, 5, false, false⟩).cfg.tOff ≤ 9 + 1
      ∧ (blowing ⟨.pulsed, false, some ⟨false, 9⟩, 5, false, false⟩).drive.blower.output = false)
    ∧ ((blowing ⟨.pulsed, true, some ⟨true, 3⟩, 9, false, false⟩).drive.blower.output = true
      ∧ (blowing ⟨.pulsed, true, some ⟨true, 3⟩, 9, false, false⟩).drive.blower.feedbackSeen = false
      ∧ (blowing ⟨.pulsed, true, some ⟨true, 3⟩, 9, false, false⟩).pins.pressure = false
      ∧ 9 ≤ (blowing ⟨.pulsed, true, some ⟨true, 3⟩, 9, false, false⟩).drive.blower.feedbackTimer
      ∧ (blowing ⟨.pulsed, true, some ⟨true, 3⟩, 9, false, false⟩).rot.service = .washing
      ∧ (blowing ⟨.pulsed, true, some ⟨true, 3⟩, 9, false, false⟩).seq.activity = .air
      ∧ (blowing ⟨.pulsed, true, some ⟨true, 3⟩, 9, false, false⟩).seq.subStep = some .running
      ∧ (blowing ⟨.pulsed, true, some ⟨true, 3⟩, 9, false, false⟩).inPattern .air
      ∧ (∀ v, ((blowing ⟨.pulsed, true, some ⟨true, 3⟩, 9, false, false⟩).valve v).waiting = [])
      ∧ 0 < (blowing ⟨.pulsed, true, some ⟨true, 3⟩, 9, false, false⟩).cfg.tAw)
    ∧ ((noWaterAir (some ⟨true, 3⟩) true 0).rot.service = .washing
      ∧ (noWaterAir (some ⟨true, 3⟩) true 0).drive.blower.output = true
      ∧ (noWaterAir (some ⟨true, 3⟩) true 0).drive.blower.feedbackSeen = true
      ∧ (noWaterAir (some ⟨true, 3⟩) true 0).cfg.tAw = 0
      ∧ (noWaterAir (some ⟨true, 3⟩) true 0).seq.activity = .air
      ∧ (noWaterAir (some ⟨true, 3⟩) true 0).seq.subStep = some .running
      ∧ (noWaterAir (some ⟨true, 3⟩) true 0).inPattern .air
      ∧ (∀ v, ((noWaterAir (some ⟨true, 3⟩) true 0).valve v).waiting = []))
    ∧ (bubbling.rot.service = .washing
      ∧ bubbling.drive.blower.output = true
      ∧ bubbling.drive.blower.feedbackSeen = false
      ∧ bubbling.pins.pressure = false
      ∧ 9 ≤ bubbling.drive.blower.feedbackTimer
      ∧ bubbling.seq.activity = .airWater
      ∧ (bubbling.seq.subStep = some .opening ∨ bubbling.seq.subStep = some .running)
      ∧ (bubbling.valve .air).pos = .opened)
    ∧ ((filtering.setBlower ⟨.continuous, true, none, 9, true, false⟩).drive.blower.output = true
      ∧ (filtering.setBlower ⟨.continuous, true, none, 9, true, false⟩).drive.blower.feedbackSeen = true
      ∧ (filtering.setBlower ⟨.continuous, true, none, 9, true, false⟩).rot.service ≠ .washing)
    ∧ ((filtering.setBlower ⟨.continuous, true, none, 9, false, false⟩).drive.blower.feedbackSeen = false)
    ∧ ((rinseEntered 9 false).rot.service = .washing
      ∧ (rinseEntered 9 false).seq.activity = .rinse
      ∧ (rinseEntered 9 false).drive.blower.output = false
      ∧ (rinseEntered 9 false).drive.blower.fault = false
      ∧ (rinseEntered 9 false).drive.airEndStop = some (rinseEntered 9 false).now
      ∧ (rinseEntered 9 false).pins.pressure = false
      ∧ (rinseEntered 0 true).drive.blower.feedbackSeen = true) :=
  ⟨⟨by decide, by decide, by decide⟩, ⟨by decide, by decide, by decide⟩, ⟨by decide, by decide, by decide,
    by decide, by decide, by decide, by decide, by unfold State.inPattern; intro v; cases v <;> decide,
    by intro v; cases v <;> decide, by decide⟩, ⟨by decide, by decide, by decide, by decide, by decide,
    by decide, by unfold State.inPattern; intro v; cases v <;> decide, by intro v; cases v <;> decide⟩,
    ⟨by decide, by decide, by decide, by decide, by decide, by decide, by decide, by decide⟩, ⟨by decide,
    by decide, by decide⟩, by decide, by decide⟩

theorem witness_SwitchesSetPositionBeforeRelease :
    (listening filtering .filtering).startup.stage = .listen
      ∧ (listening filtering .filtering).rot.service = .start
      ∧ ((listening filtering .filtering).valve .drn).pos ≠ .fault
      ∧ (listening filtering .filtering).drive.blower.output = false
      ∧ ((listening filtering .filtering).valve .drn).drive = .idle :=
  by decide

theorem witness_MemoryFormKept :
    filtering.memoryCanonical
      ∧ (after .lockWriteEnd locking).memoryCanonical
      ∧ step filtering = .next filtering.secondPasses :=
  ⟨by unfold State.memoryCanonical; decide, by unfold State.memoryCanonical; decide, rfl⟩

theorem witness_FlagsAndInterlockKept :
    State.reset.flagsTrue
      ∧ State.reset.airInterlock
      ∧ step State.reset = .next State.reset.secondPasses
      ∧ scoured.airInterlock :=
  ⟨by unfold State.flagsTrue; exact ⟨⟨fun h => absurd h (by decide), fun ⟨ch,
    h⟩ => absurd h (by cases ch <;> decide)⟩, ⟨fun h => absurd h (by decide), fun ⟨v,
    h⟩ => absurd h (by cases v <;> decide)⟩⟩, by unfold State.airInterlock; decide, rfl,
    by unfold State.airInterlock; decide⟩

/-- The same of the clauses on the blower and the outlets: delivering, washing with the blower on, and ripening. -/
theorem witness_FlagsAndInterlockKept_confined :
    ∀ s ∈ [filtering, scoured, ripening .verified 5],
      s.startConfined ∧ s.washConfined ∧ s.ripeningConfined ∧ s.deliveredNamed ∧ s.blowerConfined ∧ s.outletsConfined
        ∧ s.airInterlock ∧ step s = .next s.secondPasses := by
  intro s h
  simp only [List.mem_cons, List.not_mem_nil, or_false] at h
  obtain rfl | rfl | rfl := h <;>
    exact ⟨by unfold State.startConfined; decide, by unfold State.washConfined; decide,
      by unfold State.ripeningConfined; decide, by unfold State.deliveredNamed; decide,
      by unfold State.blowerConfined; decide, by unfold State.outletsConfined; decide,
      by unfold State.airInterlock; decide, rfl⟩

theorem witness_FlagsAndInterlockKept_blower : scoured.secondPasses.drive.blower.output = true := by decide

theorem witness_QueueAndSilenceKept :
    due.link.ordered
      ∧ due.silent
      ∧ step due = .next due.secondPasses
      ∧ (queued [] none true).silent :=
  ⟨by unfold Link.ordered; decide, by unfold State.silent; decide, rfl, by unfold State.silent; decide⟩

theorem witness_RipeningStepConfined :
    ((ripening .verified 5).startConfined
      ∧ (ripening .verified 5).washConfined
      ∧ (ripening .verified 5).ripeningConfined
      ∧ (ripening .verified 5).deliveredNamed
      ∧ step (ripening .verified 5) = .next (ripening .verified 5).secondPasses)
    ∧ ((phaseAt .refill [.inf] 899).startConfined
      ∧ (phaseAt .refill [.inf] 899).washConfined
      ∧ (phaseAt .refill [.inf] 899).ripeningConfined
      ∧ (phaseAt .refill [.inf] 899).deliveredNamed)
    ∧ ((listening filtering .filtering).startConfined
      ∧ (listening filtering .filtering).washConfined
      ∧ (listening filtering .filtering).ripeningConfined
      ∧ (listening filtering .filtering).deliveredNamed)
    ∧ (waitingTriggers.startConfined
      ∧ waitingTriggers.washConfined
      ∧ waitingTriggers.ripeningConfined
      ∧ waitingTriggers.deliveredNamed
      ∧ step waitingTriggers = exec .queueTrigger waitingTriggers) :=
  ⟨⟨by unfold State.startConfined; decide, by unfold State.washConfined; decide,
    by unfold State.ripeningConfined; decide, by unfold State.deliveredNamed; decide, rfl⟩,
    ⟨by unfold State.startConfined; decide, by unfold State.washConfined; decide,
    by unfold State.ripeningConfined; decide, by unfold State.deliveredNamed; decide⟩,
    ⟨by unfold State.startConfined; decide, by unfold State.washConfined; decide,
    by unfold State.ripeningConfined; decide, by unfold State.deliveredNamed; decide⟩,
    ⟨by unfold State.startConfined; decide, by unfold State.washConfined; decide,
    by unfold State.ripeningConfined; decide, by unfold State.deliveredNamed; decide, rfl⟩⟩

end Sys2Proof.Tests
end

section
/-! PROOF. The condition second (R19): each of its four steps said once, as what it leaves of the state and what it makes
of the condition record; its two statements follow from these. -/

namespace Sys2Proof.Machine

variable {s t u : State}

/-! ### States that differ in the condition record and the delivered triggers alone -/

/-- `t` is `s` but for its condition record and its delivered triggers: what a condition second can change (R19). -/
def SameButCondition (s t : State) : Prop := t = { s with cond := t.cond, delivered := t.delivered }

theorem SameButCondition.refl (s : State) : SameButCondition s s := rfl

theorem SameButCondition.trans (h : SameButCondition s t) (k : SameButCondition t u) : SameButCondition s u := by
  unfold SameButCondition at *
  rw [k, h]

theorem SameButCondition.of (s : State) (c : Condition) (d : List Delivery) :
    SameButCondition s { s with cond := c, delivered := d } := rfl

theorem SameButCondition.rot (h : SameButCondition s t) : t.rot = s.rot := by rw [h]
theorem SameButCondition.meas (h : SameButCondition s t) : t.meas = s.meas := by rw [h]
theorem SameButCondition.cfg (h : SameButCondition s t) : t.cfg = s.cfg := by rw [h]; rfl

/-! ### The four steps -/

theorem State.advanceRunTime_same (s : State) : SameButCondition s s.advanceRunTime := by
  unfold State.advanceRunTime
  repeat' split
  all_goals exact .of s ..

theorem State.endWindow_same (s : State) : SameButCondition s s.endWindow := by
  unfold State.endWindow
  repeat' split
  all_goals exact .of s ..

theorem State.conditionCompute_same (s : State) : SameButCondition s s.conditionCompute := by
  unfold State.conditionCompute
  repeat' split
  all_goals exact .of s ..

/-- A delivered trigger joins those that wait, unless it waits already (entry 4); a short run sets its flag (R33). -/
theorem State.deliver_eq (k : Trigger) (s : State) :
    s.deliver k = { s with
      cond := { s.cond with shortRun := s.cond.shortRun || decide (k = .shortRun) }
      delivered :=
        if ⟨k, s.rot.service⟩ ∈ s.delivered then s.delivered else s.delivered ++ [⟨k, s.rot.service⟩] } := by
  unfold State.deliver
  by_cases hd : (⟨k, s.rot.service⟩ : Delivery) ∈ s.delivered <;> cases k <;> simp [hd]

theorem State.conditionTriggers_same (s : State) : SameButCondition s s.conditionTriggers := by
  unfold State.conditionTriggers
  split
  · rw [State.deliver_eq]; exact .of s ..
  · exact .refl s

/-- Step 1 counts a second in a run, and the 60th as a minute of run time, held at 65535 (R20). -/
theorem State.advanceRunTime_cond (s : State) :
    s.advanceRunTime.cond = { s.cond with
      runSeconds :=
        if s.rot.service.delivering && s.inService then
          if s.cond.runSeconds + 1 = 60 then 0 else s.cond.runSeconds + 1
        else s.cond.runSeconds
      runTime :=
        if s.rot.service.delivering && s.inService && decide (s.cond.runSeconds + 1 = 60) then
          min 65535 (s.cond.runTime + 1)
        else s.cond.runTime } := by
  unfold State.advanceRunTime
  repeat' split
  all_goals simp_all [Config.max16]

@[simp] theorem State.advanceRunTime_delivered (s : State) : s.advanceRunTime.delivered = s.delivered := by
  unfold State.advanceRunTime
  repeat' split
  all_goals rfl

/-- Step 2 leaves the closed window in force while run time is below T_min (R29). -/
theorem State.endWindow_cond (s : State) :
    s.endWindow.cond = { s.cond with
      closedWindow := s.cond.closedWindow && decide (s.cond.runTime < s.cfg.tMin) } := by
  unfold State.endWindow State.windowEnds
  split <;> rename_i h
  · obtain ⟨_, ht⟩ : s.cond.closedWindow = true ∧ s.cfg.tMin ≤ s.cond.runTime := by simpa using h
    simp [Nat.not_lt.2 ht]
  · have hw : (s.cond.closedWindow && decide (s.cond.runTime < s.cfg.tMin)) = s.cond.closedWindow := by
      cases hc : s.cond.closedWindow with
      | false => rfl
      | true => simpa [hc] using h
    rw [hw]

@[simp] theorem State.endWindow_delivered (s : State) : s.endWindow.delivered = s.delivered := by
  unfold State.endWindow
  repeat' split
  all_goals rfl

@[simp] theorem State.conditionCompute_delivered (s : State) : s.conditionCompute.delivered = s.delivered := by
  unfold State.conditionCompute
  repeat' split
  all_goals rfl

/-- Step 3 in a run without held computes the components and takes the largest, or 1000 with manual set (R24 to R27). -/
theorem State.conditionCompute_cond_free (hd : s.rot.service.delivering = true) (hh : s.rot.held = false) :
    s.conditionCompute.cond =
      let cH := headLossComponent s.meas.ch0.filtered s.cond.baseline s.cfg.hT
      let cT := runTimeComponent s.cond.runTime s.cfg.tMax
      let cU := turbidityComponent s.meas.decision s.cfg.uT
      { s.cond with cH, cT, cU, urgency := if s.rot.manual then 1000 else max cH (max cT cU) } := by
  simp [State.conditionCompute, State.updateUrgency, State.urgencyValue, State.computeComponents, hd, hh]

/-- Step 3 in a run with held set keeps the components (R27). -/
theorem State.conditionCompute_cond_held (hd : s.rot.service.delivering = true) (hh : s.rot.held = true) :
    s.conditionCompute.cond = { s.cond with urgency := 1000 } := by
  simp [State.conditionCompute, State.updateUrgency, State.urgencyValue, hd, hh]

/-- Step 3 outside a run (R27). -/
theorem State.conditionCompute_cond_out (hd : s.rot.service.delivering = false) :
    s.conditionCompute.cond = { s.cond with cH := 0, cT := 0, cU := 0, urgency := 0 } := by
  simp [State.conditionCompute, State.updateUrgency, State.urgencyValue, State.zeroComponents, hd]

/-- Step 3 writes the components and urgency alone. -/
theorem State.conditionCompute_cond (s : State) :
    s.conditionCompute.cond = { s.cond with
      cH := s.conditionCompute.cond.cH, cT := s.conditionCompute.cond.cT, cU := s.conditionCompute.cond.cU
      urgency := s.conditionCompute.cond.urgency } := by
  unfold State.conditionCompute
  repeat' split
  all_goals rfl

/-- Step 4 writes the short-run flag alone of the condition record (R33). -/
theorem State.conditionTriggers_cond (s : State) :
    s.conditionTriggers.cond = { s.cond with
      shortRun := s.cond.shortRun || decide (s.triggerFound = some .shortRun) } := by
  unfold State.conditionTriggers
  cases s.triggerFound with
  | none => simp
  | some k => simp [State.deliver_eq]

/-- A trigger found joins those that wait behind them, unless it waits already (R34, entry 4). -/
theorem State.conditionTriggers_delivered_some {k : Trigger} (h : s.triggerFound = some k) :
    s.conditionTriggers.delivered =
      if ⟨k, s.rot.service⟩ ∈ s.delivered then s.delivered else s.delivered ++ [⟨k, s.rot.service⟩] := by
  simp [State.conditionTriggers, h, State.deliver_eq]

theorem State.conditionTriggers_delivered_none (h : s.triggerFound = none) :
    s.conditionTriggers.delivered = s.delivered := by
  simp [State.conditionTriggers, h]

/-! ### The whole second -/

/-- The state after the first three steps, in which step 4 looks for a trigger. -/
def State.conditionComputed (s : State) : State := s.advanceRunTime.endWindow.conditionCompute

theorem State.conditionSteps_eq (s : State) : s.conditionSteps = s.conditionComputed.conditionTriggers := rfl

theorem State.conditionComputed_same (s : State) : SameButCondition s s.conditionComputed :=
  (s.advanceRunTime_same.trans (State.endWindow_same _)).trans (State.conditionCompute_same _)

theorem State.conditionSteps_same (s : State) : SameButCondition s s.conditionSteps :=
  s.conditionComputed_same.trans (State.conditionTriggers_same _)

@[simp] theorem State.conditionComputed_delivered (s : State) : s.conditionComputed.delivered = s.delivered := by
  simp [State.conditionComputed]

/-- The condition record of step 3 as the second's own values have it: step 1's run time, step 2's closed window. -/
theorem State.conditionComputed_cond (s : State) :
    s.conditionComputed.cond = { s.advanceRunTime.cond with
      cH := s.conditionComputed.cond.cH, cT := s.conditionComputed.cond.cT, cU := s.conditionComputed.cond.cU
      urgency := s.conditionComputed.cond.urgency
      closedWindow := s.cond.closedWindow && decide (s.advanceRunTime.cond.runTime < s.cfg.tMin) } := by
  conv =>
    lhs
    rw [State.conditionComputed, State.conditionCompute_cond, State.endWindow_cond, s.advanceRunTime_same.cfg]
  simp [State.conditionComputed, State.advanceRunTime_cond]

/-- Step 4 leaves the condition record of step 3 but for the short-run flag. -/
theorem State.conditionSteps_cond (s : State) :
    s.conditionSteps.cond = { s.conditionComputed.cond with
      shortRun := s.cond.shortRun || decide (s.conditionComputed.triggerFound = some .shortRun) } := by
  rw [State.conditionSteps_eq, State.conditionTriggers_cond, State.conditionComputed_cond, State.advanceRunTime_cond]

theorem exec_conditionSecond (h : s.startup.stage = .running) : exec .conditionSecond s = .next s.conditionSteps := by
  simp [exec, execConditionSecond, h]

end Sys2Proof.Machine
end

section
/-! PROOF. A condition second as a command: the run time, components and urgency it leaves, and the trigger it finds. -/

namespace Sys2Proof.Machine

variable {s : State}

/-! ### Run time, components and urgency -/

theorem State.inService_iff (s : State) : s.inService = true ↔ (s.valve .eff).commanded = some .openEnd := by
  simp [State.inService, State.valve, Drive.get]

/-- A condition second advances run time as its first step does (R20). -/
theorem State.conditionSteps_run (s : State) :
    s.conditionSteps.cond.runTime = s.advanceRunTime.cond.runTime
      ∧ s.conditionSteps.cond.runSeconds = s.advanceRunTime.cond.runSeconds
      ∧ s.conditionSteps.cond.baseline = s.cond.baseline
      ∧ s.conditionSteps.cond.rtEstimated = s.cond.rtEstimated := by
  rw [State.conditionSteps_cond, State.conditionComputed_cond, State.advanceRunTime_cond]
  exact ⟨rfl, rfl, rfl, rfl⟩

/-- Run time counts in a run with EFF commanded open (R20). -/
theorem State.advanceRunTime_counts (hd : s.rot.service.delivering = true)
    (he : (s.valve .eff).commanded = some .openEnd) :
    (s.cond.runSeconds + 1 ≠ 60 → s.advanceRunTime.cond.runSeconds = s.cond.runSeconds + 1
        ∧ s.advanceRunTime.cond.runTime = s.cond.runTime)
      ∧ (s.cond.runSeconds + 1 = 60 → s.advanceRunTime.cond.runSeconds = 0
        ∧ s.advanceRunTime.cond.runTime = min 65535 (s.cond.runTime + 1)) := by
  have hi := s.inService_iff.2 he
  rw [State.advanceRunTime_cond]
  constructor <;> intro h <;> simp [hd, hi, h]

/-- Run time stands still outside a run and with EFF not commanded open (R20). -/
theorem State.advanceRunTime_stands
    (h : s.rot.service.delivering = false ∨ (s.valve .eff).commanded ≠ some .openEnd) :
    s.advanceRunTime.cond.runSeconds = s.cond.runSeconds ∧ s.advanceRunTime.cond.runTime = s.cond.runTime := by
  have hr : (s.rot.service.delivering && s.inService) = false := by
    rw [Bool.and_eq_false_iff, ← Bool.not_eq_true s.inService, s.inService_iff]
    exact h
  simp [State.advanceRunTime_cond, hr]

/-- The components and urgency after step 3 in a run without held, with the run time of this second (R24 to R27). -/
theorem State.conditionComputed_cond_free (hd : s.rot.service.delivering = true) (hh : s.rot.held = false) :
    s.conditionComputed.cond.cH = headLossComponent s.meas.ch0.filtered s.cond.baseline s.cfg.hT
      ∧ s.conditionComputed.cond.cT = runTimeComponent s.advanceRunTime.cond.runTime s.cfg.tMax
      ∧ s.conditionComputed.cond.cU = turbidityComponent s.meas.decision s.cfg.uT
      ∧ s.conditionComputed.cond.urgency = (if s.rot.manual then 1000 else max s.conditionComputed.cond.cH
          (max s.conditionComputed.cond.cT s.conditionComputed.cond.cU)) := by
  have k := s.advanceRunTime_same.trans (State.endWindow_same _)
  rw [State.conditionComputed, State.conditionCompute_cond_free (by rw [k.rot, hd]) (by rw [k.rot, hh]), k.meas, k.cfg,
    k.rot, State.endWindow_cond, State.advanceRunTime_cond]
  exact ⟨rfl, rfl, rfl, rfl⟩

/-- The components and urgency after step 3 in a run with held set (R27). -/
theorem State.conditionComputed_cond_held (hd : s.rot.service.delivering = true) (hh : s.rot.held = true) :
    s.conditionComputed.cond.cH = s.cond.cH ∧ s.conditionComputed.cond.cT = s.cond.cT
      ∧ s.conditionComputed.cond.cU = s.cond.cU ∧ s.conditionComputed.cond.urgency = 1000 := by
  have k := s.advanceRunTime_same.trans (State.endWindow_same _)
  rw [State.conditionComputed, State.conditionCompute_cond_held (by rw [k.rot, hd]) (by rw [k.rot, hh]),
    State.endWindow_cond, State.advanceRunTime_cond]
  exact ⟨rfl, rfl, rfl, rfl⟩

/-- The components and urgency after step 3 outside a run (R27). -/
theorem State.conditionComputed_cond_out (hd : s.rot.service.delivering = false) :
    s.conditionComputed.cond.cH = 0 ∧ s.conditionComputed.cond.cT = 0
      ∧ s.conditionComputed.cond.cU = 0 ∧ s.conditionComputed.cond.urgency = 0 := by
  have k := s.advanceRunTime_same.trans (State.endWindow_same _)
  rw [State.conditionComputed, State.conditionCompute_cond_out (by rw [k.rot, hd])]
  exact ⟨rfl, rfl, rfl, rfl⟩

/-- Step 4 leaves the components and urgency of step 3. -/
theorem State.conditionSteps_components (s : State) :
    s.conditionSteps.cond.cH = s.conditionComputed.cond.cH ∧ s.conditionSteps.cond.cT = s.conditionComputed.cond.cT
      ∧ s.conditionSteps.cond.cU = s.conditionComputed.cond.cU
      ∧ s.conditionSteps.cond.urgency = s.conditionComputed.cond.urgency := by
  rw [State.conditionSteps_cond]
  exact ⟨rfl, rfl, rfl, rfl⟩

/-- Settles O8, step by step: run time by step 1, the components and urgency by step 3, the frame by all four. -/
theorem conditionSecondComputes : Obligations.ConditionSecondComputes := by
  intro s hs
  obtain ⟨hrt, hrs, hb, he⟩ := s.conditionSteps_run
  obtain ⟨hH, hT, hU, hq⟩ := s.conditionSteps_components
  refine ⟨s.conditionSteps, exec_conditionSecond hs, s.conditionSteps_same, hb, he, ?_, ?_, ?_, ?_, ?_⟩
  · intro hd ho
    rw [hrt, hrs]
    exact State.advanceRunTime_counts hd ho
  · intro h
    rw [hrt, hrs]
    exact State.advanceRunTime_stands h
  · intro hd hh
    obtain ⟨h0, h1, h2, h3⟩ := State.conditionComputed_cond_free hd hh
    rw [hrt, hH, hT, hU, hq]
    refine ⟨h0.trans ?_, h1, h2.trans ?_, h3⟩
    · cases s.meas.ch0.filtered <;> rfl
    · cases s.meas.decision <;> rfl
  · intro hd hh
    rw [hH, hT, hU, hq]
    exact State.conditionComputed_cond_held hd hh
  · intro hd
    rw [hH, hT, hU, hq]
    exact State.conditionComputed_cond_out hd

/-! ### The trigger found -/

/-- Hard breakthrough as R31 has it. -/
theorem State.breakthroughSeen_iff (s : State) :
    s.breakthroughSeen = true
      ↔ s.meas.ch1.status = .valid ∧ s.meas.decision.any (s.cfg.uHard ≤ ·) = true := by
  simp [State.breakthroughSeen, State.turbidityHard]

/-- The short-run test as R33 has it. -/
theorem State.shortRunSeen_iff (s : State) :
    s.shortRunSeen = true ↔ s.cfg.qThr ≤ s.cond.cH ∨ s.cfg.qThr ≤ s.cond.cU ∨ s.breakthroughSeen = true := by
  simp [State.shortRunSeen, or_assoc]

/-- In the closed window FILTERING looks for a short run alone (R33). -/
theorem State.triggerFound_closed (hs : s.rot.service = .filtering) (hw : s.cond.closedWindow = true) :
    s.triggerFound = if s.shortRunSeen then some .shortRun else none := by
  simp [State.triggerFound, hs, hw]

/-- With the closed window ended FILTERING looks for a hard breakthrough, then for the queue threshold (R30, R31). -/
theorem State.triggerFound_filtering (hs : s.rot.service = .filtering) (hw : s.cond.closedWindow = false) :
    s.triggerFound =
      if s.rot.held = false ∧ s.breakthroughSeen = true then some .hardBreakthrough
      else if s.cfg.qThr ≤ s.cond.urgency then some .queueTrigger else none := by
  simp [State.triggerFound, hs, hw]

/-- QUEUED and CLAIMING look for a hard breakthrough alone (R31). -/
theorem State.triggerFound_waiting (hs : s.rot.service = .queued ∨ s.rot.service = .claiming) :
    s.triggerFound =
      if s.cond.closedWindow = false ∧ s.rot.held = false ∧ s.breakthroughSeen = true then some .hardBreakthrough
      else none := by
  rcases hs with hs | hs <;> simp [State.triggerFound, hs, and_assoc]

/-- Outside a run nothing is looked for. -/
theorem State.triggerFound_out (hd : s.rot.service.delivering = false) : s.triggerFound = none := by
  cases h : s.rot.service <;> simp_all [State.triggerFound, ServiceState.delivering]

/-- A second that finds a trigger delivers it with the service state it was found in. -/
theorem State.conditionSteps_finds {k : Trigger} (h : s.conditionComputed.triggerFound = some k) :
    s.conditionSteps.delivered =
        (if ⟨k, s.rot.service⟩ ∈ s.delivered then s.delivered else s.delivered ++ [⟨k, s.rot.service⟩])
      ∧ s.conditionSteps.cond.shortRun = (s.cond.shortRun || decide (k = .shortRun)) := by
  constructor
  · rw [State.conditionSteps_eq, State.conditionTriggers_delivered_some h, s.conditionComputed_same.rot,
      State.conditionComputed_delivered]
  · simp [State.conditionSteps_cond, h]

/-- A second that finds no trigger leaves those that wait and the short-run flag. -/
theorem State.conditionSteps_findsNone (h : s.conditionComputed.triggerFound = none) :
    s.conditionSteps.delivered = s.delivered ∧ s.conditionSteps.cond.shortRun = s.cond.shortRun := by
  constructor
  · rw [State.conditionSteps_eq, State.conditionTriggers_delivered_none h, State.conditionComputed_delivered]
  · simp [State.conditionSteps_cond, h]

theorem State.conditionSteps_closedWindow (s : State) :
    s.conditionSteps.cond.closedWindow = s.conditionComputed.cond.closedWindow
      ∧ s.conditionSteps.cond.closedWindow
        = (s.cond.closedWindow && decide (s.conditionSteps.cond.runTime < s.cfg.tMin)) := by
  rw [State.conditionSteps_run s |>.1, State.conditionSteps_cond]
  refine ⟨rfl, ?_⟩
  rw [State.conditionComputed_cond]

/-! ### The end of the closed window -/

/-- CLOSED_WINDOW_END is the whole condition second that ends the closed window (entry 3). -/
theorem exec_closedWindowEnd (hs : s.startup.stage = .running) (hw : s.cond.closedWindow = true)
    (ht : s.cfg.tMin ≤ s.advanceRunTime.cond.runTime) :
    exec .closedWindowEnd s = .next s.conditionSteps ∧ s.conditionSteps.cond.closedWindow = false := by
  have hc : s.advanceRunTime.cond.closedWindow = true := by rw [State.advanceRunTime_cond, ← hw]
  constructor
  · simp [exec, execClosedWindowEnd, State.windowEnds, hs, hc, s.advanceRunTime_same.cfg, ht]
  · rw [s.conditionSteps_closedWindow.2, s.conditionSteps_run.1]
    simp [Nat.not_lt.2 ht]

/-- Step 1 does not lower a run time within its range (R20). -/
theorem State.runTime_le_advanceRunTime (h : s.cond.runTime ≤ 65535) :
    s.cond.runTime ≤ s.advanceRunTime.cond.runTime := by
  rw [State.advanceRunTime_cond]
  dsimp only
  split <;> omega

/-- Settles O9: the trigger found after step 3 by service state and closed window, its delivery by step 4; then the two
ways in which run time reaches T_min. -/
theorem conditionSecondTriggers : Obligations.ConditionSecondTriggers := by
  refine ⟨fun s hs => ⟨s.conditionSteps, exec_conditionSecond hs, s.conditionSteps_closedWindow.2, ?_⟩,
    fun s hs hw => ⟨fun ht hm => ?_, fun hd he h59 ht hm => ?_⟩⟩
  · intro hard delivers none_
    have k := s.conditionComputed_same
    obtain ⟨hH, -, hU, hq⟩ := s.conditionSteps_components
    have hhard : s.conditionComputed.breakthroughSeen = true ↔ hard := by
      rw [State.breakthroughSeen_iff, k.meas, k.cfg]
    have hshort : s.conditionComputed.shortRunSeen = true ↔
        s.cfg.qThr ≤ s.conditionComputed.cond.cH ∨ s.cfg.qThr ≤ s.conditionComputed.cond.cU ∨ hard := by
      rw [State.shortRunSeen_iff, hhard, k.cfg]
    have found : ∀ x, s.conditionComputed.triggerFound = some x → delivers x := fun _ => State.conditionSteps_finds
    have nothing : s.conditionComputed.triggerFound = none → none_ := State.conditionSteps_findsNone
    rw [s.conditionSteps_closedWindow.1, hH, hU, hq, ← hshort, ← hhard]
    refine ⟨fun hf hc => ?_, fun hf hc => ?_, fun hf => ?_, fun hf => ?_⟩
    · have h := State.triggerFound_closed (k.rot ▸ hf) hc
      exact ⟨fun hx => found _ (by rw [h, if_pos hx]), fun hx => nothing (by rw [h, if_neg hx])⟩
    · have h := State.triggerFound_filtering (k.rot ▸ hf) hc
      rw [k.rot, k.cfg] at h
      have hn : s.rot.held = true ∨ ¬s.conditionComputed.breakthroughSeen = true →
          ¬(s.rot.held = false ∧ s.conditionComputed.breakthroughSeen = true) := by
        rintro (hx | hx) ⟨hh, hb⟩
        · exact Bool.noConfusion (hx.symm.trans hh)
        · exact hx hb
      refine ⟨fun hh hx => found _ ?_, fun hx hu => found _ ?_, fun hx hu => nothing ?_⟩
      · rw [h, if_pos ⟨hh, hx⟩]
      · rw [h, if_neg (hn hx), if_pos hu]
      · rw [h, if_neg (hn hx), if_neg (Nat.not_le.2 hu)]
    · have h := State.triggerFound_waiting (s := s.conditionComputed) (k.rot ▸ hf)
      rw [k.rot] at h
      exact ⟨fun hx => found _ (by rw [h, if_pos hx]), fun hx => nothing (by rw [h, if_neg hx])⟩
    · exact nothing (State.triggerFound_out (k.rot ▸ hf))
  · obtain ⟨hx, hc⟩ := exec_closedWindowEnd hs hw (Nat.le_trans ht (State.runTime_le_advanceRunTime hm))
    exact ⟨s.conditionSteps, hx, hc, exec_conditionSecond hs, s.conditionSteps_same⟩
  · obtain ⟨hrs, hrt⟩ := (State.advanceRunTime_counts hd he).2 (by omega)
    have hmin : s.advanceRunTime.cond.runTime = s.cfg.tMin := by omega
    obtain ⟨hx, hc⟩ := exec_closedWindowEnd hs hw (Nat.le_of_eq hmin.symm)
    obtain ⟨hrt', hrs', -, -⟩ := s.conditionSteps_run
    exact ⟨s.conditionSteps, hx, hc, hrt'.trans hmin, hrs'.trans hrs, exec_conditionSecond hs, s.conditionSteps_same⟩

end Sys2Proof.Machine
end

section
/-! PROOF. The delivered triggers as they are taken (R30 to R34): what a change of service state makes of the condition
record, of the delivered triggers and of the valves, and the three commands that take a trigger. -/

namespace Sys2Proof.Machine

variable {s : State}

/-! ### What a change of service state leaves and computes -/

theorem ServiceState.outOfRun_of_delivering {x : ServiceState} (h : x.delivering = true) : x.outOfRun = false := by
  cases x <;> simp_all [ServiceState.delivering, ServiceState.outOfRun]

theorem ServiceState.delivering_of_outOfRun {x : ServiceState} (h : x.outOfRun = true) : x.delivering = false := by
  cases x <;> simp_all [ServiceState.delivering, ServiceState.outOfRun]

/-- A change within the run forms urgency anew from the components as they stand (R28). -/
theorem State.changeState_cond_within {new : ServiceState} (ho : s.rot.service.delivering = true)
    (hn : new.delivering = true) :
    (s.changeState new).cond = { s.cond with
      urgency := if s.rot.held || s.rot.manual then 1000 else max s.cond.cH (max s.cond.cT s.cond.cU) } := by
  have hold : s.rot.service.outOfRun = false := ServiceState.outOfRun_of_delivering ho
  have hstart : s.rot.service ≠ .start := fun h => by rw [h] at ho; exact Bool.noConfusion ho
  have hnew := ServiceState.outOfRun_of_delivering hn
  simp [State.changeState, State.enterState, State.urgencyOnEntry, State.refreshOversub, State.updateUrgency,
    State.urgencyValue, hold, hstart, hnew, hn]

/-- A change that leaves the run takes the components and urgency to 0 (R27, R28). -/
theorem State.changeState_cond_out {new : ServiceState} (hn : new.outOfRun = true) :
    (s.changeState new).cond = { s.cond with cH := 0, cT := 0, cU := 0, urgency := 0 } := by
  have hd := ServiceState.delivering_of_outOfRun hn
  simp [State.changeState, State.enterState, State.urgencyOnEntry, State.refreshOversub, State.updateUrgency,
    State.urgencyValue, State.zeroComponents, hn, hd]

@[simp] theorem State.changeState_valve (s : State) (new : ServiceState) (v : Valve) :
    (s.changeState new).valve v = s.valve v := by
  simp [State.valve]

/-- Of the triggers hard breakthrough alone names QUEUED (R34). -/
theorem Trigger.names_queued (x : Trigger) : x.names .queued = (x == .hardBreakthrough) := by cases x <;> rfl

/-- No trigger names ISOLATED (R34). -/
theorem Trigger.names_isolated (x : Trigger) : x.names .isolated = false := by cases x <;> rfl

/-- A request to produce a STATUS is told from the same link after another start that left the link alone. -/
theorem StatusAsked.of_link {s' t : State} (h : StatusAsked s t) (hl : s.link = s'.link) : StatusAsked s' t := by
  unfold StatusAsked at h ⊢
  rw [← hl, h]

/-! ### QUEUE_TRIGGER -/

/-- FILTERING goes to QUEUED with its flags, valves and sequencer as they were (R30, R28, R39). -/
theorem State.changeState_filtering_queued (hs : s.rot.service = .filtering) :
    (s.changeState .queued).rot = { s.rot with service := .queued, oversub := false }
      ∧ (s.changeState .queued).delivered = s.delivered.filter (fun d => d.trigger == .hardBreakthrough)
      ∧ (s.changeState .queued).cond = { s.cond with
          urgency := if s.rot.held || s.rot.manual then 1000 else max s.cond.cH (max s.cond.cT s.cond.cU) } := by
  refine ⟨?_, ?_, State.changeState_cond_within (by rw [hs]; rfl) rfl⟩
  · simp [State.changeState_rot, ServiceState.outOfRun, ServiceState.occupies]
  · simp [Trigger.names_queued]

/-! ### SHORT_RUN -/

/-- The valves that an isolation requests closed (R42). -/
theorem State.isolationRequest_valve (s : State) (v : Valve) :
    s.isolationRequest.valve v =
      if v = .inf ∨ v = .eff ∨ v = .ftw ∧ (s.valve .ftw).commanded = some .openEnd then
        (s.valve v).request .rotation .closedEnd
      else s.valve v := by
  unfold State.isolationRequest
  have hv : s.drive.ftw.commanded = (s.valve .ftw).commanded := rfl
  rw [hv]
  split <;> rw [State.requestMoves_valve _ _ _ _ _ (by decide)] <;> simp_all

/-- In FILTERING an isolation has no claim to close off and no ripening to abandon (R42, R43). -/
theorem State.isolateTo_filtering (hs : s.rot.service = .filtering) (new : ServiceState) :
    s.isolateTo new = s.isolationRequest.changeState new := by
  simp [State.isolateTo, State.closeOff, State.abandonRipening, hs]

theorem State.isolationRequest_kept (s : State) :
    s.isolationRequest.rot = s.rot ∧ s.isolationRequest.cond = s.cond ∧ s.isolationRequest.seq = s.seq
      ∧ s.isolationRequest.link = s.link := by
  simp [State.isolationRequest]

/-- FILTERING is isolated: ISOLATED with manual cleared, the components at 0, no trigger left waiting and the STATUS
asked for (R33, R34, R39, R27, R54). -/
theorem State.isolateTo_filtering_isolated (hs : s.rot.service = .filtering) :
    (s.isolateTo .isolated).delivered = []
      ∧ (s.isolateTo .isolated).rot = { s.rot with service := .isolated, manual := false, oversub := false }
      ∧ (s.isolateTo .isolated).cond = { s.cond with cH := 0, cT := 0, cU := 0, urgency := 0 }
      ∧ (s.isolateTo .isolated).seq = s.seq ∧ StatusAsked s (s.isolateTo .isolated) := by
  obtain ⟨hrot, hcond, hseq, hlink⟩ := s.isolationRequest_kept
  rw [State.isolateTo_filtering hs]
  refine ⟨?_, ?_, ?_, ?_, (State.changeState_asked _ _).of_link hlink⟩
  · simp [Trigger.names_isolated]
  · simp [State.changeState_rot, hrot, ServiceState.outOfRun, ServiceState.occupies]
  · rw [State.changeState_cond_out rfl, hcond]
  · rw [State.changeState_seq, hseq]

/-- The valves after FILTERING is isolated (R42). -/
theorem State.isolateTo_filtering_valve (hs : s.rot.service = .filtering) (new : ServiceState) (v : Valve) :
    (s.isolateTo new).valve v = s.isolationRequest.valve v := by
  rw [State.isolateTo_filtering hs, State.changeState_valve]

/-- Settles O10: QUEUED by one change of service state, ISOLATED by an isolation with nothing to close off; elsewhere
the trigger leaves those that wait and nothing else changes. -/
theorem queueAndShortRunTaken : Obligations.QueueAndShortRunTaken := by
  constructor
  · intro s taken
    refine ⟨fun hs => ?_, fun hs => by simp [exec, execQueueTrigger, hs, State.undeliver, taken]⟩
    obtain ⟨hrot, hdel, hcond⟩ := State.changeState_filtering_queued (s := taken) hs
    exact ⟨taken.changeState .queued, by simp [exec, execQueueTrigger, hs, State.undeliver, taken],
      taken.changeState_quiet _, hrot, taken.changeState_drive _, taken.changeState_seq _, hcond, hdel,
      taken.changeState_asked _⟩
  · intro s taken
    refine ⟨fun hs => ?_, fun hs => by simp [exec, execShortRun, hs, State.undeliver, taken]⟩
    obtain ⟨hdel, hrot, hcond, hseq, hasked⟩ := State.isolateTo_filtering_isolated (s := taken) hs
    have hv : ∀ v, (taken.isolateTo .isolated).valve v = _ := fun v =>
      (State.isolateTo_filtering_valve (s := taken) hs .isolated v).trans (taken.isolationRequest_valve v)
    refine ⟨taken.isolateTo .isolated, by simp [exec, execShortRun, hs, State.undeliver, taken],
      taken.isolateTo_quiet _, hdel, hrot, ?_, ?_, fun ho => ?_, fun ho => ?_, ?_, ?_, ?_, hcond, hseq, hasked⟩
    · simp [hv]
    · simp [hv]
    · rw [hv, if_pos (.inr (.inr ⟨rfl, ho⟩)), ValveRec.request_commanded]
    · have hn : (taken.valve .ftw).commanded ≠ some .openEnd := ho
      simp [hv, hn]; rfl
    · simp [hv]; rfl
    · simp [hv]; rfl
    · simp [hv]; rfl

/-! ### HARD_BREAKTHROUGH -/

/-- The state with held set and EFF and INF requested closed, before the service state is looked at (R31, R32). -/
def State.heldAndClosing (s : State) : State :=
  ({ s with rot := { s.rot with held := true } }).requestMoves .rotation .closedEnd [.eff, .inf]

theorem State.breakThrough_eq (hh : s.rot.held = false) :
    s.breakThrough = if s.rot.service = .filtering then s.heldAndClosing.changeState .queued
      else s.heldAndClosing.updateUrgency := by
  simp [State.breakThrough, State.heldAndClosing, hh]

theorem State.heldAndClosing_calm (s : State) : Calm s s.heldAndClosing :=
  (Calm.of s ..).trans (State.requestMoves_calm _ _ _ _)

theorem State.heldAndClosing_kept (s : State) :
    s.heldAndClosing.rot = { s.rot with held := true } ∧ s.heldAndClosing.cond = s.cond
      ∧ s.heldAndClosing.seq = s.seq ∧ s.heldAndClosing.link = s.link ∧ s.heldAndClosing.delivered = s.delivered := by
  simp [State.heldAndClosing]

/-- EFF and INF take the request to close, the other valves none (R31). -/
theorem State.heldAndClosing_valve (s : State) (v : Valve) :
    s.heldAndClosing.valve v =
      if v = .eff ∨ v = .inf then (s.valve v).request .rotation .closedEnd else s.valve v := by
  rw [State.heldAndClosing, State.requestMoves_valve _ _ _ _ _ (by decide)]
  simp
  rfl

/-- A request to close begins the drive of an OPEN valve at once (R146, R147). -/
theorem ValveRec.request_close_opened (who : Requester) {r : ValveRec} (h : r.pos = .opened) :
    (r.request who .closedEnd).pos = .closing ∧ (r.request who .closedEnd).drive = .energized
      ∧ (r.request who .closedEnd).timer = 0 := by
  simp [ValveRec.request, h, ValveRec.begin, ValveRec.join, ValveEnd.moving]

/-- A hard breakthrough without held sets it and takes FILTERING to QUEUED; QUEUED and CLAIMING stay (R31, R32). -/
theorem State.breakThrough_rot (hd : s.rot.service.delivering = true) (hh : s.rot.held = false) :
    s.breakThrough.rot = { s.rot with
      held := true
      service := if s.rot.service = .claiming then .claiming else .queued
      oversub := if s.rot.service = .filtering then false else s.rot.oversub } := by
  obtain ⟨hrot, -⟩ := s.heldAndClosing_kept
  rw [State.breakThrough_eq hh]
  cases hs : s.rot.service with
  | filtering => simp [State.changeState_rot, hrot, ServiceState.outOfRun, ServiceState.occupies]
  | queued | claiming => simp [hrot, hs]
  | start | washing | ripening | standby | isolated => rw [hs] at hd; exact Bool.noConfusion hd

/-- With held set urgency is 1000 at once (R28). -/
theorem State.breakThrough_cond (hd : s.rot.service.delivering = true) (hh : s.rot.held = false) :
    s.breakThrough.cond = { s.cond with urgency := 1000 } := by
  obtain ⟨hrot, hcond, -⟩ := s.heldAndClosing_kept
  rw [State.breakThrough_eq hh]
  split
  · rw [State.changeState_cond_within (by rw [hrot]; exact hd) rfl, hrot, hcond]
    rfl
  · simp [State.updateUrgency, State.urgencyValue, hrot, hcond, hd]

theorem State.breakThrough_valve (hh : s.rot.held = false) (v : Valve) :
    s.breakThrough.valve v = if v = .eff ∨ v = .inf then (s.valve v).request .rotation .closedEnd else s.valve v := by
  rw [← State.heldAndClosing_valve, State.breakThrough_eq hh]
  split
  · exact State.changeState_valve _ _ _
  · rfl

/-- Going to QUEUED drops the waiting triggers that name FILTERING alone; staying drops none (R34). -/
theorem State.breakThrough_delivered (hh : s.rot.held = false) :
    s.breakThrough.delivered =
      if s.rot.service = .filtering then s.delivered.filter (fun d => d.trigger == .hardBreakthrough)
      else s.delivered := by
  obtain ⟨-, -, -, -, hdel⟩ := s.heldAndClosing_kept
  rw [State.breakThrough_eq hh]
  split <;> simp [Trigger.names_queued, hdel]

/-- The change to QUEUED is told; with the service state kept nothing is (R54). -/
theorem State.breakThrough_told (hh : s.rot.held = false) :
    (s.rot.service = .filtering → StatusAsked s s.breakThrough)
      ∧ (s.rot.service ≠ .filtering → s.breakThrough.link = s.link) := by
  obtain ⟨-, -, -, hlink, -⟩ := s.heldAndClosing_kept
  rw [State.breakThrough_eq hh]
  refine ⟨fun hs => ?_, fun hs => ?_⟩
  · rw [if_pos hs]
    exact (State.changeState_asked _ _).of_link hlink
  · rw [if_neg hs]
    exact hlink

theorem State.breakThrough_seq (hh : s.rot.held = false) : s.breakThrough.seq = s.seq := by
  obtain ⟨-, -, hseq, -⟩ := s.heldAndClosing_kept
  rw [State.breakThrough_eq hh]
  split <;> simp [hseq]

theorem State.breakThrough_stillQuiet (hh : s.rot.held = false) : Quiet s s.breakThrough := by
  rw [State.breakThrough_eq hh]
  split
  · exact s.heldAndClosing_calm.thenQuiet (State.changeState_quiet _ _)
  · exact (s.heldAndClosing_calm.trans (State.updateUrgency_calm _)).quiet

theorem exec_hardBreakthrough (s : State) :
    exec .hardBreakthrough s =
      .next (if s.rot.service.delivering then (s.undeliver .hardBreakthrough).breakThrough
        else s.undeliver .hardBreakthrough) := rfl

/-- Settles O11: the fields after a hard breakthrough, each by its own lemma; out of the run, and with held set, the
trigger alone leaves those that wait. -/
theorem hardBreakthroughHolds : Obligations.HardBreakthroughHolds := by
  intro s taken
  refine ⟨fun hd hh => ?_, ?_⟩
  · have hv : ∀ v, taken.breakThrough.valve v = _ := State.breakThrough_valve (s := taken) hh
    have hrot := State.breakThrough_rot (s := taken) hd hh
    obtain ⟨htold, hlink⟩ := State.breakThrough_told (s := taken) hh
    refine ⟨taken.breakThrough, by rw [exec_hardBreakthrough, if_pos hd]; rfl, State.breakThrough_stillQuiet hh,
      by rw [hrot], State.breakThrough_delivered hh, by rw [hrot], by rw [hrot], by rw [hrot], by rw [hrot],
      by rw [hrot], ?_, ?_, fun v hc ho => ?_, fun v he hi => ?_, State.breakThrough_cond hd hh,
      State.breakThrough_seq hh, htold, hlink⟩
    · rw [hv, if_pos (.inl rfl), ValveRec.request_commanded]
    · rw [hv, if_pos (.inr rfl), ValveRec.request_commanded]
    · rw [hv, if_pos hc]
      exact ValveRec.request_close_opened _ ho
    · rw [hv, if_neg (by simp [he, hi])]
      rfl
  · intro h
    have hb : s.rot.held = true → taken.breakThrough = taken := fun hh => by
      simp [State.breakThrough, taken, hh]
    rw [exec_hardBreakthrough]
    rcases h with hd | hh
    · rw [hd]; rfl
    · split
      · exact congrArg _ (hb hh)
      · rfl

end Sys2Proof.Machine
end

section
/-! PROOF. A step (entries 1, 4): the front command, a delivered trigger, or a second of station time; what LOAD makes of
a start-up record at its start values, and which commands a second queues. -/

namespace Sys2Proof.Machine

variable {s : State}

/-! ### The three kinds of step -/

theorem step_pending {c : Instr} {rest : List Instr} (h : s.pending = c :: rest) :
    step s = exec c { s with pending := rest } := by
  simp [step, h]

theorem step_delivered {d : Delivery} {rest : List Delivery} (h : s.pending = []) (hd : s.delivered = d :: rest) :
    step s = exec d.trigger.command s := by
  simp [step, h, hd]

theorem step_second (h : s.pending = []) (hd : s.delivered = []) : step s = .next s.secondPasses := by
  simp [step, h, hd]

/-! ### LOAD from the start values (R161, R162, R127) -/

/-- The full wash bound is the sum that R127 spells out. -/
theorem Params.fullBound_longest (p : Params) : p.fullBound = p.longestWash := by
  by_cases h : p.tAw = 0 <;>
    simp [Params.fullBound, Params.longestWash, Params.laterBound, Params.phaseMax, Params.airMax, Params.entryMax,
      Params.hasEntry, Nat.pos_iff_ne_zero, h] <;> omega

theorem fieldIndexes_eq : fieldIndexes = List.range' 1 43 := by decide

/-- The first field that fails is the one that LOAD names (R162). -/
theorem firstFailing_of_failsFirst {number i : Nat} {f : Nat → Nat} (h : failsFirst number f i) :
    firstFailing number f = some i := by
  obtain ⟨h1, h43, hi, hbefore⟩ := h
  rw [firstFailing, fieldIndexes_eq, List.find?_range'_eq_some]
  refine ⟨by simp [hi], by simp; omega, fun j hj hji => by simp [hbefore j hj hji]⟩

theorem firstFailing_of_allFieldsPass {number : Nat} {f : Nat → Nat} (h : allFieldsPass number f) :
    firstFailing number f = none := by
  rw [firstFailing, fieldIndexes_eq, List.find?_range'_eq_none]
  intro i h1 h43
  simp [h i h1 (by omega)]

theorem Memory.crcMatches_iff (m : Memory) : m.crcMatches = true ↔ m.storedCrc = crcBytes m.record := by
  simp [Memory.crcMatches]

/-- What LOAD leaves where a check fails (R161). -/
theorem State.load_of_failure {i : Nat} (h : loadFailure s.pins.straps.toNat s.mem = some i) :
    s.load = { s with startup := { s.startup with
      number := some s.pins.straps.toNat, locked := s.mem.lockReads, faultIndex := some i, stage := .configFault } } := by
  simp [State.load, h]

/-- What LOAD leaves where every check passes (R161, R127). -/
theorem State.load_of_pass (h : loadFailure s.pins.straps.toNat s.mem = none) :
    s.load = { s with
      startup := { s.startup with
        number := some s.pins.straps.toNat, locked := s.mem.lockReads
        working := some ⟨Params.ofFields s.mem.field, s.mem.record⟩, stage := .inputs }
      seq := { s.seq with fullBound := (Params.ofFields s.mem.field).fullBound } } := by
  simp [State.load, h]

/-- LOAD changes the start-up record and the full wash bound alone. -/
theorem State.load_frame (s : State) : s.load = { s with startup := s.load.startup, seq := s.load.seq } := by
  cases h : loadFailure s.pins.straps.toNat s.mem with
  | none => rw [State.load_of_pass h]
  | some i => rw [State.load_of_failure h]

theorem State.load_number_locked (s : State) :
    s.load.startup.number = some s.pins.straps.toNat ∧ s.load.startup.locked = s.mem.lockReads := by
  cases h : loadFailure s.pins.straps.toNat s.mem with
  | none => rw [State.load_of_pass h]; exact ⟨rfl, rfl⟩
  | some i => rw [State.load_of_failure h]; exact ⟨rfl, rfl⟩

/-- LOAD from a start-up record with no working copy and no fault index leaves what R161 and R162 name. -/
theorem State.load_loadedFrom (hw : s.startup.working = none) (hf : s.startup.faultIndex = none) :
    s.load.loadedFrom s.pins.straps.toNat s.mem := by
  obtain ⟨hn, hl⟩ := s.load_number_locked
  have failed : ∀ i, loadFailure s.pins.straps.toNat s.mem = some i → s.load.startup.stage = .configFault
      ∧ s.load.startup.faultIndex = some i ∧ s.load.startup.working = none := fun i h => by
    rw [State.load_of_failure h]
    exact ⟨rfl, rfl, hw⟩
  refine ⟨by rw [State.load_frame], hn, ?_, fun hc => failed 0 ?_, fun hc i hi => failed i ?_, fun hc ha => ?_⟩
  · rw [hl]
    simp [Memory.lockReads, Config.unlockedCode]
  · rw [loadFailure, if_neg (by rwa [Memory.crcMatches_iff])]
  · rw [loadFailure, if_pos (by rwa [Memory.crcMatches_iff]), firstFailing_of_failsFirst hi]
  · have hp : loadFailure s.pins.straps.toNat s.mem = none := by
      rw [loadFailure, if_pos (by rwa [Memory.crcMatches_iff]), firstFailing_of_allFieldsPass ha]
    rw [State.load_of_pass hp]
    exact ⟨rfl, hf, rfl, Params.fullBound_longest _⟩

/-- A port that owes nothing and keeps no request has nothing to serve (R174). -/
theorem State.serve_idle (ho : s.port.owed = []) (hp : s.port.pendingReq = none) : s.serve = s := by
  simp [State.serve, ho, hp]

/-! ### The commands that a second queues -/

/-- Presence changes in the table second where the entry's silence has passed its limit (R82). -/
theorem PeerEntry.aged_ne_iff (e : PeerEntry) (now : Nat) :
    e.aged now ≠ e.presence ↔ e.presence = .fresh ∧ 3 * e.senderS.getD 10 < now - e.lastHeard
      ∨ e.presence = .stale ∧ 10 * e.senderS.getD 10 < now - e.lastHeard := by
  cases h : e.presence with
  | fresh =>
    by_cases hx : 3 * e.senderS.getD 10 < now - e.lastHeard <;> simp [PeerEntry.aged, PeerEntry.interval, h, hx]
  | stale =>
    by_cases hx : 10 * e.senderS.getD 10 < now - e.lastHeard <;> simp [PeerEntry.aged, PeerEntry.interval, h, hx]
  | absent => simp [PeerEntry.aged, h]

/-- The table second's commands for one entry (R82, R83). -/
theorem PeerEntry.mem_due (e : PeerEntry) (now : Nat) (c : Instr) :
    c ∈ e.due now ↔ e.aged now ≠ e.presence ∧ c = .peerAging (BitVec.ofNat 4 e.number)
      ∨ e.lapses now = true ∧ c = .occupancyLapse (BitVec.ofNat 4 e.number) := by
  simp [PeerEntry.due]

/-- The ends of what takes less than a second (entries 1, 2). -/
theorem State.mem_shortEnds (s : State) (c : Instr) :
    c ∈ s.shortEnds ↔ s.link.accessWait ≠ none ∧ c = .accessWaitEnd
      ∨ s.link.assembly ≠ none ∧ c = .assemblyQuietTimeout
      ∨ s.port.assembly ≠ none ∧ c = .portQuietTimeout
      ∨ s.startup.memWrite = .record ∧ c = .recordWriteEnd
      ∨ s.startup.memWrite = .lock ∧ c = .lockWriteEnd
      ∨ (s.port.answer ≠ none ∧ s.port.processing ≠ none) ∧ c = .answerSent
      ∨ (s.port.answer ≠ none ∧ s.port.processing = none) ∧ c = .owedRefusalSent := by
  cases hm : s.startup.memWrite <;> by_cases hp : s.port.processing = none <;>
    simp [State.shortEnds, hm, hp, Option.isSome_iff_ne_none]

/-- The events of a second of station time (entry 1). -/
theorem State.mem_secondEvents (s : State) (c : Instr) :
    c ∈ s.secondEvents ↔ s.seq.activity ≠ .idle ∧ c = .sequenceSecond
      ∨ s.rip.step = .running ∧ c = .ripeningSecond
      ∨ s.settlingDue = true ∧ c = .settlingExpiry
      ∨ (∃ e ∈ s.peers, c ∈ e.due (s.now + 1))
      ∨ s.listenDue = true ∧ c = .listenEnd
      ∨ s.released = true ∧ c = .driveSecond
      ∨ s.startup.stage = .running ∧ c = .conditionSecond
      ∨ s.tickDue = true ∧ c = .statusTick
      ∨ s.rot.settleDeadline.any (· ≤ s.now + 1) = true ∧ c = .settleExpiry := by
  simp [State.secondEvents]

/-- The drive second occurs from RELEASE on (R147). -/
theorem State.released_iff (s : State) :
    s.released = true
      ↔ s.startup.stage = .release ∨ s.startup.stage = .recovery ∨ s.startup.stage = .running := by
  unfold State.released
  cases s.startup.stage <;> simp

theorem State.listenDue_iff (s : State) :
    s.listenDue = true ↔ s.startup.stage = .listen ∧ 3 * s.cfg.s ≤ s.startup.listenElapsed + 1 := by
  simp [State.listenDue]

/-! ### A second after SAFE -/

theorem State.secondPasses_of_not_safe (h : s.startup.stage ≠ .safe) :
    s.secondPasses = { s.countSecond with pending := s.shortEnds ++ s.secondEvents } := by
  simp [State.secondPasses, h]

/-- A count raised below its limit alone. -/
theorem raised_below_limit (limit : Nat) (o : Option Nat) :
    (if o.any (fun k => decide (limit ≤ k + 1)) then o else o.map (· + 1))
      = o.map (fun k => if k + 1 < limit then k + 1 else k) := by
  cases o with
  | none => rfl
  | some k => by_cases h : limit ≤ k + 1 <;> simp [h, Nat.not_lt.2, Nat.not_le.1]

/-- The counts that a second raises below their limits (R13, R70, R165). -/
theorem State.countSecond_counts (s : State) :
    s.countSecond.meas.settling = s.meas.settling.map (fun k => if k + 1 < 60 then k + 1 else k)
      ∧ s.countSecond.link.statusTick = s.link.statusTick.map (fun k => if k + 1 < s.cfg.s then k + 1 else k)
      ∧ s.countSecond.startup.listenElapsed =
        (if s.startup.stage = .listen ∧ s.startup.listenElapsed + 1 < 3 * s.cfg.s then s.startup.listenElapsed + 1
        else s.startup.listenElapsed) := by
  refine ⟨raised_below_limit 60 _, raised_below_limit s.cfg.s _, ?_⟩
  have h : (s.startup.stage = .listen ∧ (!s.listenDue) = true)
      ↔ s.startup.stage = .listen ∧ s.startup.listenElapsed + 1 < 3 * s.cfg.s := by
    simp +contextual [State.listenDue]
  simp only [State.countSecond, h]

/-- What a second of station time after SAFE queues, with what each command waits for (entries 1, 2). -/
theorem State.mem_secondPasses_pending (h : s.startup.stage ≠ .safe) (c : Instr) :
    c ∈ s.secondPasses.pending ↔ c ∈ s.shortEnds ∨ c ∈ s.secondEvents := by
  rw [State.secondPasses_of_not_safe h]
  exact List.mem_append

/-- Settles O1: the three kinds of step; the second in SAFE is the load; after SAFE the commands queued are read off
`mem_shortEnds` and `mem_secondEvents`. -/
theorem stepRunsFrontCommand : Obligations.StepRunsFrontCommand := by
  refine ⟨fun c rest s => step_pending, fun d rest s hp hd => ?_, fun s hp hd hs => ⟨fun hr => ?_, fun hr h0 hport => ?_⟩,
    fun s hp hd hs => ?_⟩
  · have h := step_delivered hp hd
    refine ⟨fun hx => ?_, fun hx => ?_, fun hx => ?_⟩ <;> rw [h, hx] <;> rfl
  · rw [step_second hp hd]
    simp [State.secondPasses, hs, hr]
  · have hserve : s.loadAndServe = s.load := by
      refine State.serve_idle ?_ ?_ <;> rw [State.load_frame, hport]
    refine ⟨s.load, ?_, State.load_loadedFrom (by rw [h0]) (by rw [h0]), by rw [State.load_frame],
      by rw [State.load_frame]; exact hp⟩
    rw [step_second hp hd]
    simp [State.secondPasses, hs, hr, hserve]
  · obtain ⟨hset, htick, hlisten⟩ := s.countSecond_counts
    have hc := s.secondPasses_of_not_safe hs
    have mem := State.mem_secondPasses_pending hs
    simp only [State.mem_shortEnds, State.mem_secondEvents, PeerEntry.mem_due] at mem
    refine ⟨s.secondPasses, step_second hp hd, by rw [hc]; rfl, by rw [hc]; exact hset, by rw [hc]; exact htick,
      by rw [hc]; exact hlisten, by simp [mem], by simp [mem], by simp [mem, State.released_iff], by simp [mem],
      by simp [mem, State.settlingDue, Config.settlingTime], by simp [mem, State.tickDue],
      by simp [mem, State.listenDue_iff], by simp [mem], fun n => ?_, fun n => ?_, by simp [mem], by simp [mem],
      by simp [mem], by simp [mem], by simp [mem], by simp [mem], by simp [mem], fun c h => ?_⟩
    · simp only [← PeerEntry.aged_ne_iff]
      simp [mem, and_comm, eq_comm (a := n)]
    · simp [mem, PeerEntry.lapses, and_comm, eq_comm (a := n)]
    · rw [mem] at h
      rcases h with h | ⟨_, rfl⟩ | ⟨_, rfl⟩ | ⟨_, rfl⟩ | ⟨e, _, he⟩ | h
      · rcases h with ⟨_, rfl⟩ | ⟨_, rfl⟩ | ⟨_, rfl⟩ | ⟨_, rfl⟩ | ⟨_, rfl⟩ | ⟨_, rfl⟩ | ⟨_, rfl⟩ <;> exact .inr (by simp)
      · exact .inr (by simp)
      · exact .inr (by simp)
      · exact .inr (by simp)
      · exact .inl ⟨_, he.imp And.right And.right⟩
      · rcases h with ⟨_, rfl⟩ | ⟨_, rfl⟩ | ⟨_, rfl⟩ | ⟨_, rfl⟩ | ⟨_, rfl⟩ <;> exact .inr (by simp)

end Sys2Proof.Machine
end

section
/-! PROOF. The peer table as a list of entries: what is found after an entry is put in its place or removed, and what is
counted over a table without one of its entries. -/

namespace Sys2Proof.Machine

variable {n m : Nat} {e : PeerEntry} {l : List PeerEntry}

/-! ### Finding -/

theorem findPeer_cons (n : Nat) (e : PeerEntry) (l : List PeerEntry) :
    findPeer n (e :: l) = if e.number = n then some e else findPeer n l := rfl

/-- The entry found for a number is that station's (R75). -/
theorem findPeer_number (h : findPeer n l = some e) : e.number = n := by
  induction l with
  | nil => cases h
  | cons x l ih =>
    rw [findPeer_cons] at h
    split at h
    · cases h; assumption
    · exact ih h

theorem findPeer_putPeer_same (e : PeerEntry) (l : List PeerEntry) : findPeer e.number (putPeer e l) = some e := by
  induction l with
  | nil => simp [putPeer, findPeer]
  | cons x l ih =>
    unfold putPeer
    by_cases hlt : e.number < x.number
    · rw [if_pos hlt, findPeer_cons, if_pos rfl]
    by_cases heq : e.number = x.number
    · rw [if_neg hlt, if_pos heq, findPeer_cons, if_pos rfl]
    · rw [if_neg hlt, if_neg heq, findPeer_cons, if_neg (Ne.symm heq), ih]

theorem findPeer_putPeer_other (e : PeerEntry) (l : List PeerEntry) (h : m ≠ e.number) :
    findPeer m (putPeer e l) = findPeer m l := by
  induction l with
  | nil => simp [putPeer, findPeer, h.symm]
  | cons x l ih =>
    unfold putPeer
    by_cases hlt : e.number < x.number
    · rw [if_pos hlt, findPeer_cons, if_neg h.symm]
    by_cases heq : e.number = x.number
    · rw [if_neg hlt, if_pos heq, findPeer_cons, findPeer_cons, if_neg h.symm, if_neg (heq ▸ h.symm)]
    · rw [if_neg hlt, if_neg heq, findPeer_cons, findPeer_cons, ih]

/-! ### Removing -/

theorem findPeer_dropPeer_same (n : Nat) (l : List PeerEntry) : findPeer n (dropPeer n l) = none := by
  induction l with
  | nil => rfl
  | cons x l ih =>
    by_cases hx : x.number = n
    · simpa [dropPeer, hx] using ih
    · simpa [dropPeer, hx, findPeer_cons] using ih

theorem findPeer_dropPeer_other (l : List PeerEntry) (h : m ≠ n) : findPeer m (dropPeer n l) = findPeer m l := by
  induction l with
  | nil => rfl
  | cons x l ih =>
    by_cases hx : x.number = n
    · simpa [dropPeer, hx, findPeer_cons, h.symm] using ih
    · simpa [dropPeer, hx, findPeer_cons] using congrArg _ ih

/-- Where a number has no entry there is nothing to remove. -/
theorem dropPeer_of_none (h : findPeer n l = none) : dropPeer n l = l := by
  induction l with
  | nil => rfl
  | cons x l ih =>
    rw [findPeer_cons] at h
    split at h
    · cases h
    next hx => simpa [dropPeer, hx] using ih h

/-- In a table with one entry a number, the entry found is the one removed: the table is that entry and the rest. -/
theorem perm_cons_dropPeer (hn : (l.map PeerEntry.number).Nodup) (h : findPeer n l = some e) :
    l.Perm (e :: dropPeer n l) := by
  induction l with
  | nil => cases h
  | cons x l ih =>
    rw [List.map_cons, List.nodup_cons] at hn
    obtain ⟨hx, hl⟩ := hn
    rw [findPeer_cons] at h
    by_cases hxn : x.number = n
    · rw [if_pos hxn] at h
      have hrest : dropPeer n l = l := List.filter_eq_self.2 fun y hy => by
        have : y.number ≠ n := fun h' => hx (List.mem_map.2 ⟨y, hy, h'.trans hxn.symm⟩)
        simpa using this
      have hdrop : dropPeer n (x :: l) = l := by simpa [dropPeer, hxn] using hrest
      rw [hdrop, Option.some.inj h]
    · rw [if_neg hxn] at h
      have hdrop : dropPeer n (x :: l) = x :: dropPeer n l := by simp [dropPeer, hxn]
      rw [hdrop]
      exact ((ih hl h).cons x).trans (.swap e x _)

end Sys2Proof.Machine
end

section
/-! PROOF. FORGET (R84): the request taken on an idle port, and the quantities of R86 to R88 over the table it
leaves. -/

namespace Sys2Proof.Machine

variable {s t : State} {n : Nat} {e : PeerEntry}

/-! ### A request on an idle port (R174, R175) -/

/-- The state in which an owner sees a request that an idle port has taken (R173, R174). -/
def State.taking (r : Request) (s : State) : State :=
  s.setPort { s.port with assembly := none, processing := some r }

theorem State.panelRequest_free (h : s.portFree) (k : ReqKind) (tag : BitVec 4) :
    s.panelRequest k tag = (s.setPort { s.port with assembly := none }).handle ⟨k, tag⟩ := by
  obtain ⟨hsafe, hload, hmem, hpend, hproc, howed⟩ := h
  rw [State.panelRequest_arrives k tag hsafe]
  simp [State.arrive, State.setPort, hsafe, hload, hmem, hpend, hproc, howed]

/-- A request that the screening lets through is its owner's (R175). -/
theorem State.panelRequest_owned (h : s.portFree) {k : ReqKind} (tag : BitVec 4) (hk : s.screen k = none) :
    s.panelRequest k tag = (((s.taking ⟨k, tag⟩).own k).1).setPort
      { ((s.taking ⟨k, tag⟩).own k).1.port with
        answer := ((s.taking ⟨k, tag⟩).own k).2.map (fun a => a.toAnswer ⟨k, tag⟩) } := by
  have hk' : (s.taking ⟨k, tag⟩).screen k = none := hk
  have hown : (s.taking ⟨k, tag⟩).answerTo k = (s.taking ⟨k, tag⟩).own k := by simp only [State.answerTo, hk']
  rw [State.panelRequest_free h, ← hown]
  rfl

/-- A request about a station in range passes the screening (R175). -/
theorem State.screen_station {k : ReqKind} (hc : s.startup.stage ≠ .configFault) (hk : k.station = some n)
    (hn : n < s.cfg.nG) (ho : n ≠ s.ownNumber) : s.screen k = none := by
  simp [State.screen, hc, hk, hn, ho]

theorem exec_forget (h : s.portFree) (hc : s.startup.stage ≠ .configFault) {b : Byte} (hn : b.toNat < s.cfg.nG)
    (ho : b.toNat ≠ s.ownNumber) (tag : BitVec 4) :
    exec (.forget tag b) s = .next (if forgetAllowed (s.peer b.toNat) then
      { s with peers := dropPeer b.toNat s.peers, port := s.port.answering (.forget b) tag .accepted }
      else { s with port := s.port.answering (.forget b) tag (.refused .state) }) := by
  have hx : exec (.forget tag b) s = .next (s.panelRequest (.forget b) tag) := rfl
  have hp : (s.taking ⟨.forget b, tag⟩).peer b.toNat = s.peer b.toNat := rfl
  rw [hx, State.panelRequest_owned h tag (State.screen_station hc rfl hn ho)]
  simp only [State.own, State.ownForget, hp]
  split <;> rfl

/-! ### Quantities without the entry (R86 to R88) -/

/-- The quantities over a table that is another one and an ABSENT entry without occupancy: the entry counts in the flow
sum alone. -/
theorem quantities_of_perm (h : s.peers.Perm (e :: t.peers)) (hd : t.drive = s.drive) (hm : t.meas = s.meas)
    (hr : t.rot = s.rot) (hp : e.presence = .absent) (ho : e.occupancyUntil = none) :
    t.sumFlow + (if e.inService then e.flow.getD 0 else 0) = s.sumFlow ∧ t.nOn = s.nOn
      ∧ t.occupyingPeers = s.occupyingPeers ∧ t.effectiveHold = s.effectiveHold := by
  have hpres : e.present = false := by simp [PeerEntry.present, hp]
  have hocc : e.occupying = false := by simp [PeerEntry.occupying, ho]
  have hin : t.inService = s.inService := by simp [State.inService, hd]
  refine ⟨?_, ?_, ?_, ?_⟩
  · have hsum := (h.map fun e => if e.inService then e.flow.getD 0 else 0).sum_nat
    rw [List.map_cons, List.sum_cons] at hsum
    have hflow : t.ownFlow = s.ownFlow := by simp [State.ownFlow, hm]
    simp only [State.sumFlow, hin, hflow, hsum]
    omega
  · simp only [State.nOn, hin, h.countP_eq, List.countP_cons, hpres, Bool.false_and]
    simp
  · simp only [State.occupyingPeers, h.countP_eq, List.countP_cons, hocc]
    simp
  · have hhold : t.peerHold = s.peerHold := by
      simp only [State.peerHold, h.any_eq, List.any_cons, hpres, Bool.false_and, Bool.false_or]
    simp only [State.effectiveHold, hhold, hr]

theorem forgetAllowed_some_iff (e : PeerEntry) :
    forgetAllowed (some e) = true ↔ e.presence = .absent ∧ e.occupancyUntil = none := by
  simp [forgetAllowed]

/-- Settles O20: the three answers of FORGET by what the table holds for the number. -/
theorem forgetRemovesAbsent : Obligations.ForgetRemovesAbsent := by
  intro tag b s hf hc hn ho
  have hx := exec_forget hf hc hn ho tag
  refine ⟨fun e he hp hu => ?_, fun hnone => ?_, fun e he hkept => ?_⟩
  · rw [he, if_pos ((forgetAllowed_some_iff e).2 ⟨hp, hu⟩)] at hx
    refine ⟨_, hx, rfl, findPeer_dropPeer_same _ _, fun m hm => findPeer_dropPeer_other _ hm, fun hdup => ?_⟩
    exact quantities_of_perm (perm_cons_dropPeer hdup he) rfl rfl rfl hp hu
  · have hallow : forgetAllowed none = true := rfl
    rw [hnone, if_pos hallow, dropPeer_of_none hnone] at hx
    exact ⟨_, hx, rfl, fun _ => rfl⟩
  · have hrefuse : ¬ forgetAllowed (some e) = true := fun h =>
      hkept.elim (· ((forgetAllowed_some_iff e).1 h).1) (· ((forgetAllowed_some_iff e).1 h).2)
    rw [hx, he, if_neg hrefuse]

end Sys2Proof.Machine
end

section
/-! PROOF. The frame encoding (R57, R58, R180, R181): what a station forms of a frame in its ranges, a station of the
same gallery reads back. -/

namespace Sys2Proof.Machine

/-! ### Numbers in bytes -/

theorem natBytes_one (x : Nat) : natBytes 1 x = [BitVec.ofNat 8 x] := rfl

theorem natBytes_two (x : Nat) : natBytes 2 x = [BitVec.ofNat 8 (x / 256), BitVec.ofNat 8 x] := rfl

theorem toNat_ofNat_byte {x : Nat} (h : x ≤ 255) : (BitVec.ofNat 8 x).toNat = x := by
  rw [BitVec.toNat_ofNat]
  omega

theorem bytesNat_two {x : Nat} (h : x ≤ 65535) : bytesNat [BitVec.ofNat 8 (x / 256), BitVec.ofNat 8 x] = x := by
  simp only [bytesNat, List.foldl_cons, List.foldl_nil, BitVec.toNat_ofNat]
  omega

/-- A word is its two bytes, the high one first. -/
theorem append_bytes_of_word (w : Word16) : BitVec.ofNat 8 (w.toNat / 256) ++ BitVec.ofNat 8 w.toNat = w := by
  apply BitVec.eq_of_toNat_eq
  have hw := w.isLt
  rw [BitVec.toNat_append, ← Nat.shiftLeft_add_eq_or_of_lt (BitVec.isLt _), Nat.shiftLeft_eq, BitVec.toNat_ofNat,
    BitVec.toNat_ofNat]
  omega

theorem highNibble_ofNat {a b : Nat} (ha : a < 16) (hb : b < 16) : highNibble (BitVec.ofNat 8 (a * 16 + b)) = a := by
  rw [highNibble, BitVec.toNat_ofNat]
  omega

theorem lowNibble_ofNat {a b : Nat} (hb : b < 16) : lowNibble (BitVec.ofNat 8 (a * 16 + b)) = b := by
  rw [lowNibble, BitVec.toNat_ofNat]
  omega

/-! ### Codes (R179) -/

theorem serviceCode_lt (x : ServiceState) : serviceCode x < 16 := by cases x <;> decide

theorem serviceOfCode_serviceCode {x : ServiceState} (h : x ≠ .start) : serviceOfCode (serviceCode x) = some x := by
  cases x <;> first | rfl | contradiction

theorem outcomeOfCode_outcomeCode (o : WashOutcome) : outcomeOfCode (outcomeCode o) = some o := by cases o <;> rfl

theorem outcomeCode_le (o : WashOutcome) : outcomeCode o ≤ 255 := by cases o <;> decide

theorem FrameKind.code_lt (k : FrameKind) : k.code < 16 := by cases k <;> decide

theorem frameKindOfCode_code (k : FrameKind) : frameKindOfCode k.code = some k := by cases k <;> rfl

theorem claimFlagsByte_held (held manual : Bool) : (claimFlagsByte held manual).getLsbD 1 = held := by
  cases held <;> cases manual <;> rfl

theorem claimFlagsByte_manual (held manual : Bool) : (claimFlagsByte held manual).getLsbD 0 = manual := by
  cases held <;> cases manual <;> rfl

/-! ### The whole frame and its payload -/

theorem Frame.payload_length (f : Frame) : f.payload.length = f.kind.payloadLength := by cases f <;> rfl

/-- A frame that a station of the gallery has formed passes the checks of R72. -/
theorem Frame.goodFrame_bytes (f : Frame) {nG n : Nat} (hn : n < nG) (hg : nG ≤ 16) :
    goodFrame nG (f.bytes n) = some ⟨f.kind, n, f.payload⟩ := by
  have hlow : n < 16 := Nat.lt_of_lt_of_le hn hg
  have hlen : (BitVec.ofNat 8 f.kind.payloadLength).toNat = f.kind.payloadLength := by cases f.kind <;> rfl
  have hcrc : ∀ bs, (crcBytes bs).length = 2 := fun _ => rfl
  have htake : ∀ r, (f.payload ++ r).take f.kind.payloadLength = f.payload := fun _ =>
    List.take_left' f.payload_length
  have hdrop : ∀ r, (f.payload ++ r).drop f.kind.payloadLength = r := fun _ => List.drop_left' f.payload_length
  simp only [Frame.bytes, withCheck, List.cons_append, List.nil_append, goodFrame, hlen, List.length_append, hcrc,
    htake, hdrop, highNibble_ofNat f.kind.code_lt hlow, lowNibble_ofNat hlow, frameKindOfCode_code,
    f.payload_length, hn, and_self, if_true]

/-- A payload formed in its ranges is read back, every field of it (R76, R181). -/
theorem Frame.readPayload_payload {f : Frame} (h : f.inRange = true) : readPayload f.kind f.payload = some f.heard := by
  cases f with
  | status c =>
    simp only [Frame.inRange, decide_eq_true_eq] at h
    obtain ⟨hstate, hphase, hurg, hflow, hrun, hlo, hhi, hbound⟩ := h
    simp only [Frame.kind, Frame.payload, natBytes_one, natBytes_two, List.cons_append, List.nil_append, readPayload,
      highNibble_ofNat (serviceCode_lt _) hphase, serviceOfCode_serviceCode hstate, bytesNat_two hflow,
      bytesNat_two hrun, bytesNat_two hbound, bytesNat_two (show c.urgency ≤ 65535 by omega),
      toNat_ofNat_byte (show c.interval ≤ 255 by omega), append_bytes_of_word, hurg, hlo, hhi, and_self, if_true,
      Frame.heard]
  | claim c =>
    simp only [Frame.inRange, decide_eq_true_eq] at h
    obtain ⟨hurg, hrun, hserial, hbound⟩ := h
    simp only [Frame.kind, Frame.payload, natBytes_one, natBytes_two, List.cons_append, List.nil_append, readPayload,
      bytesNat_two hrun, bytesNat_two hbound, bytesNat_two (show c.urgency ≤ 65535 by omega), toNat_ofNat_byte hserial,
      claimFlagsByte_held, claimFlagsByte_manual, hurg, if_true, Frame.heard]
  | yield serial =>
    simp only [Frame.inRange, decide_eq_true_eq] at h
    simp only [Frame.kind, Frame.payload, natBytes_one, readPayload, toNat_ofNat_byte h, Frame.heard]
  | done outcome duration =>
    simp only [Frame.inRange, decide_eq_true_eq] at h
    simp only [Frame.kind, Frame.payload, natBytes_one, natBytes_two, List.cons_append, List.nil_append, readPayload,
      toNat_ofNat_byte (outcomeCode_le _), outcomeOfCode_outcomeCode, bytesNat_two h, Frame.heard]

end Sys2Proof.Machine
end

section
/-! PROOF. A good frame heard from a peer (R72, R76 to R81): what the table holds after it, what its delivery to the
rotation controller leaves alone in every service state, and the three kinds of frame in turn. -/

namespace Sys2Proof.Machine

variable {s t : State} {n m now : Nat} {e : PeerEntry} {l : List PeerEntry}

/-! ### The table after a frame -/

/-- The entry on which a STATUS or a CLAIM is recorded: the sender's, or a new one, heard now (R76, R77, R79). -/
def heardEntry (now n : Nat) (l : List PeerEntry) : PeerEntry := ((findPeer n l).getD (.fresh n now)).hear now

theorem heardEntry_number (now n : Nat) (l : List PeerEntry) : (heardEntry now n l).number = n := by
  unfold heardEntry
  cases h : findPeer n l with
  | none => rfl
  | some e => exact findPeer_number (e := e) h

@[simp] theorem PeerEntry.recordStatus_number (e : PeerEntry) (now : Nat) (c : StatusHeard) :
    (e.recordStatus now c).number = e.number := rfl

@[simp] theorem PeerEntry.recordClaim_number (e : PeerEntry) (now : Nat) (c : ClaimContent) :
    (e.recordClaim now c).number = e.number := rfl

@[simp] theorem PeerEntry.recordDone_number (e : PeerEntry) (outcome : WashOutcome) :
    (e.recordDone outcome).number = e.number := rfl

@[simp] theorem PeerEntry.hear_number (e : PeerEntry) (now : Nat) : (e.hear now).number = e.number := rfl

@[simp] theorem PeerEntry.recordYield_number (e : PeerEntry) (serial : Nat) :
    (e.recordYield serial).number = e.number := by
  unfold PeerEntry.recordYield
  split <;> rfl

theorem recordHeard_status (now n : Nat) (c : StatusHeard) (l : List PeerEntry) :
    recordHeard now n (.status c) l = putPeer ((heardEntry now n l).recordStatus now c) l := rfl

theorem recordHeard_claim (now n : Nat) (c : ClaimContent) (l : List PeerEntry) :
    recordHeard now n (.claim c) l = putPeer ((heardEntry now n l).recordClaim now c) l := rfl

theorem recordHeard_yield (h : findPeer n l = some e) (now serial : Nat) :
    recordHeard now n (.yield serial) l = putPeer ((e.hear now).recordYield serial) l := by
  simp only [recordHeard, h]

theorem recordHeard_done (h : findPeer n l = some e) (now : Nat) (outcome : WashOutcome) (duration : Nat) :
    recordHeard now n (.done outcome duration) l = putPeer ((e.hear now).recordDone outcome) l := by
  simp only [recordHeard, h]

/-- A frame puts an entry of its sender in the table, or leaves the table as it is (R76 to R81). -/
theorem recordHeard_cases (now n : Nat) (h : Heard) (l : List PeerEntry) :
    (∃ e : PeerEntry, e.number = n ∧ recordHeard now n h l = putPeer e l) ∨ recordHeard now n h l = l := by
  cases h with
  | status c => exact .inl ⟨_, by simp [heardEntry_number], recordHeard_status now n c l⟩
  | claim c => exact .inl ⟨_, by simp [heardEntry_number], recordHeard_claim now n c l⟩
  | yield serial =>
    cases he : findPeer n l with
    | none => exact .inr (by simp only [recordHeard, he])
    | some e => exact .inl ⟨_, by simp [findPeer_number he], recordHeard_yield he now serial⟩
  | done outcome duration =>
    cases he : findPeer n l with
    | none => exact .inr (by simp only [recordHeard, he])
    | some e => exact .inl ⟨_, by simp [findPeer_number he], recordHeard_done he now outcome duration⟩

theorem findPeer_recordHeard_other (now : Nat) (h : Heard) (l : List PeerEntry) (hm : m ≠ n) :
    findPeer m (recordHeard now n h l) = findPeer m l := by
  rcases recordHeard_cases now n h l with ⟨e, rfl, hl⟩ | hl
  · rw [hl, findPeer_putPeer_other e l hm]
  · rw [hl]

/-- The entry put in place is the one found for its number. -/
theorem findPeer_of_putPeer {l' : List PeerEntry} (h : l' = putPeer e l) (hn : e.number = n) :
    findPeer n l' = some e := by
  subst h hn
  exact findPeer_putPeer_same e l

theorem ServiceState.occupies_iff (x : ServiceState) : x.occupies = true ↔ x = .claiming ∨ x = .washing := by
  cases x <;> simp [ServiceState.occupies]

/-! ### What the rotation controller makes of it leaves alone (R91, R101) -/

theorem State.evaluate_drive_seq (s : State) : s.evaluate.drive = s.drive ∧ s.evaluate.seq = s.seq := by
  unfold State.evaluate
  dsimp only
  split <;> simp [State.makeClaim]

theorem State.testYield_drive_seq (s : State) : s.testYield.drive = s.drive ∧ s.testYield.seq = s.seq := by
  unfold State.testYield
  split <;> simp [State.yieldFor]

theorem State.rotationTick_drive_seq (s : State) : s.rotationTick.drive = s.drive ∧ s.rotationTick.seq = s.seq := by
  unfold State.rotationTick
  split
  · exact s.evaluate_drive_seq
  · exact s.testYield_drive_seq
  all_goals exact ⟨rfl, rfl⟩

theorem State.holdEvent_drive_seq (s : State) (b : Bool) :
    (s.holdEvent b).drive = s.drive ∧ (s.holdEvent b).seq = s.seq := by
  unfold State.holdEvent
  split
  · exact ⟨rfl, rfl⟩
  · exact s.rotationTick_drive_seq

theorem State.rotationFrame_drive_seq (s : State) (k : Option FrameKind) :
    (s.rotationFrame k).drive = s.drive ∧ (s.rotationFrame k).seq = s.seq := by
  unfold State.rotationFrame
  split
  · split
    · exact s.evaluate_drive_seq
    · exact ⟨rfl, rfl⟩
  · exact s.testYield_drive_seq
  all_goals exact ⟨rfl, rfl⟩

theorem State.unclaimed_of_washing (h : s.rot.service = .washing) : s.unclaimed := by simp [State.unclaimed, h]

/-- Outside QUEUED and CLAIMING a change of the effective hold changes nothing (R91, R101). -/
theorem State.holdEvent_unclaimed (h : s.unclaimed) (b : Bool) : s.holdEvent b = s := by
  obtain ⟨hq, hc⟩ := h
  unfold State.holdEvent State.rotationTick
  split
  · rfl
  · split <;> first | rfl | contradiction

theorem State.rotationFrame_unclaimed (h : s.unclaimed) (k : Option FrameKind) : s.rotationFrame k = s := by
  obtain ⟨hq, hc⟩ := h
  unfold State.rotationFrame
  split <;> first | rfl | contradiction

/-- A change of the effective hold keeps the service state or takes QUEUED. -/
theorem State.holdEvent_service (s : State) (b : Bool) :
    (s.holdEvent b).rot.service = s.rot.service ∨ (s.holdEvent b).rot.service = .queued := by
  unfold State.holdEvent
  split
  · exact .inl rfl
  · unfold State.rotationTick
    split
    · exact .inl s.evaluate_calm.service
    · exact s.testYield_service
    all_goals exact .inl rfl

theorem State.rotationFrame_queued_calm (h : s.rot.service = .queued) (k : Option FrameKind) :
    Calm s (s.rotationFrame k) := by
  simp only [State.rotationFrame, h]
  split
  · exact s.evaluate_calm
  · exact .refl s

theorem State.holdEvent_rotationFrame_quiet (s : State) (b : Bool) (k : Option FrameKind) :
    Quiet s ((s.holdEvent b).rotationFrame k) := by
  have hframe := State.rotationFrame_quiet (s := s.holdEvent b) k
  rcases s.holdEvent_service b with h | h
  · exact s.holdEvent_quiet b |>.trans hframe (.inl h)
  · exact s.holdEvent_quiet b |>.thenCalm (State.rotationFrame_queued_calm h k)

/-! ### The frame heard -/

/-- The state with a frame recorded, before the rotation controller hears of it (R72, R107). -/
def State.recorded (h : Heard) (n : Nat) (s : State) : State :=
  ({ s with link := s.link.heard, peers := recordHeard s.now n h s.peers }).refreshOversub

theorem State.recorded_oversub (h : Heard) (n : Nat) (s : State) :
    (s.recorded h n).rot.oversub
      = (s.rot.service.occupies && decide (s.cfg.w < (s.recorded h n).occupyingPeers + 1)) := rfl

/-- The state after a frame of a peer: recorded, the change of the hold delivered, then the frame (R72, R88, R91). -/
def State.hearing (f : Frame) (n : Nat) (s : State) : State :=
  ((s.recorded f.heard n).holdEvent s.effectiveHold).rotationFrame (some f.kind)

theorem exec_frameReceived_bytes {f : Frame} (hf : f.inRange = true) (hg : s.cfg.nG ≤ 16) (hn : n < s.cfg.nG)
    (ho : n ≠ s.ownNumber) (hr : s.link.receiver = true) (ht : s.link.transmitting = false) :
    exec (.frameReceived (f.bytes n)) s = .next (s.hearing f n) := by
  have hx : exec (.frameReceived (f.bytes n)) s = .next (s.frameArrives (f.bytes n)) := rfl
  have hcfg : (({ s with link := s.link.lineQuiet }).setAssembly none).cfg = s.cfg := rfl
  have hown : (({ s with link := s.link.lineQuiet }).setAssembly none).ownNumber = s.ownNumber := rfl
  simp only [hx, State.frameArrives, hr, ht, Bool.not_false, Bool.and_self, if_true, State.takeFrame, hcfg,
    f.goodFrame_bytes hn hg, hown, if_neg ho, State.peerFrame, Frame.readPayload_payload hf]
  rfl

theorem State.hearing_quiet (f : Frame) (n : Nat) (s : State) : Quiet (s.recorded f.heard n) (s.hearing f n) :=
  State.holdEvent_rotationFrame_quiet ..

theorem State.hearing_peers (f : Frame) (n : Nat) (s : State) :
    (s.hearing f n).peers = recordHeard s.now n f.heard s.peers := (s.hearing_quiet f n).peers

theorem State.hearing_unclaimed (h : s.unclaimed) (f : Frame) (n : Nat) : s.hearing f n = s.recorded f.heard n := by
  have hu : (s.recorded f.heard n).unclaimed := h
  rw [State.hearing, State.holdEvent_unclaimed hu, State.rotationFrame_unclaimed hu]

/-- What a frame of station `n` leaves as it was from `s` to `t`, and the oversub flag outside QUEUED and CLAIMING. -/
def HeardFrom (n : Nat) (s t : State) : Prop :=
  (∀ m, m ≠ n → t.peer m = s.peer m) ∧ Quiet { s with peers := t.peers } t ∧ t.drive = s.drive ∧ t.seq = s.seq
    ∧ (s.unclaimed → t = { s with
        peers := t.peers
        link := s.link.heard
        rot := { s.rot with oversub := t.rot.oversub } })
    ∧ (s.rot.service = .washing → (t.rot.oversub = true ↔ s.cfg.w < t.occupyingPeers + 1))
    ∧ (s.unclaimed → s.rot.service ≠ .washing → t.rot.oversub = false)

theorem State.hearing_heardFrom (f : Frame) (n : Nat) (s : State) : HeardFrom n s (s.hearing f n) := by
  have hpeers := s.hearing_peers f n
  obtain ⟨hdrive, hseq⟩ := ((s.recorded f.heard n).holdEvent s.effectiveHold).rotationFrame_drive_seq (some f.kind)
  obtain ⟨hdrive', hseq'⟩ := (s.recorded f.heard n).holdEvent_drive_seq s.effectiveHold
  refine ⟨fun m hm => ?_, ?_, hdrive.trans hdrive', hseq.trans hseq', fun hu => ?_, fun hw => ?_, fun hu hw => ?_⟩
  · rw [State.peer, hpeers]
    exact findPeer_recordHeard_other _ _ _ hm
  · have hrec : Calm { s with peers := recordHeard s.now n f.heard s.peers } (s.recorded f.heard n) := .of _ ..
    rw [hpeers]
    exact hrec.thenQuiet (s.hearing_quiet f n)
  · rw [State.hearing_unclaimed hu]
    rfl
  · rw [State.hearing_unclaimed (State.unclaimed_of_washing hw), State.recorded_oversub, hw]
    simp [ServiceState.occupies]
  · have hocc : s.rot.service.occupies = false := by
      rw [Bool.eq_false_iff, ne_eq, ServiceState.occupies_iff]
      exact not_or.2 ⟨hu.2, hw⟩
    rw [State.hearing_unclaimed hu, State.recorded_oversub, hocc, Bool.false_and]

/-! ### The three kinds of frame -/

/-- What hearing `f` from station `n` puts in the table is what the table then holds for `n`. -/
theorem State.hearing_peer {f : Frame} (h : recordHeard s.now n f.heard s.peers = putPeer e s.peers)
    (hn : e.number = n) : (s.hearing f n).peer n = some e :=
  findPeer_of_putPeer ((s.hearing_peers f n).trans h) hn

theorem State.hearing_peers_none {f : Frame} (h : s.peer n = none) (hf : f.kind.releases = true) :
    (s.hearing f n).peers = s.peers := by
  have hnone : findPeer n s.peers = none := h
  rw [State.hearing_peers]
  cases f with
  | status c => cases hf
  | claim c => cases hf
  | yield serial => simp only [Frame.heard, recordHeard, hnone]
  | done outcome duration => simp only [Frame.heard, recordHeard, hnone]

theorem heardEntry_of_some (h : findPeer n l = some e) (now : Nat) : heardEntry now n l = e.hear now := by
  simp only [heardEntry, h, Option.getD_some]

theorem heardEntry_of_none (h : findPeer n l = none) (now : Nat) : heardEntry now n l = .fresh n now := by
  simp only [heardEntry, h, Option.getD_none]
  rfl

/-- The claim that a STATUS leaves: kept in a claim it continues, made without a serial, or cleared (R78). -/
theorem PeerEntry.recordStatus_claim (e : PeerEntry) (now : Nat) (c : StatusHeard) :
    (c.state ≠ .claiming → (e.recordStatus now c).claim = none)
      ∧ (c.state = .claiming → e.state = .claiming → ∀ k, e.claim = some k → (e.recordStatus now c).claim = some k)
      ∧ (c.state = .claiming → e.state ≠ .claiming →
        (e.recordStatus now c).claim
          = some ⟨none, c.urgency, c.runTime, c.flags.getLsbD 14, c.flags.getLsbD 13⟩) := by
  refine ⟨fun hc => ?_, fun hc he k hk => ?_, fun hc he => ?_⟩
  · simp only [PeerEntry.recordStatus, if_neg hc]
  · simp only [PeerEntry.recordStatus, if_pos hc, he, hk, Option.isSome_some, and_self, if_true]
  · simp only [PeerEntry.recordStatus, if_pos hc, he, false_and, if_false]
    rfl

/-- Settles O34: the entry found is the one `recordStatus` makes of the sender's entry heard now. -/
theorem statusFrameRecorded : Obligations.StatusFrameRecorded := by
  intro c n s hf hg hn ho hr ht
  obtain ⟨hcleared, hcontinued, hmade⟩ := (heardEntry s.now n s.peers).recordStatus_claim s.now
    ⟨c.state, c.flags, c.urgency, c.flow, c.runTime, c.interval, c.bound⟩
  refine ⟨_, exec_frameReceived_bytes hf hg hn ho hr ht, _,
    State.hearing_peer (recordHeard_status ..) (by simp [heardEntry_number]), rfl, rfl, rfl, rfl, rfl, rfl, rfl, rfl,
    ?_, hcleared, fun old hold hc => ?_, fun hc hnone => ?_, fun old hold hc => ?_, State.hearing_heardFrom ..⟩
  · simp only [PeerEntry.recordStatus, ServiceState.occupies_iff]
  · rw [heardEntry_of_some hold] at hcontinued ⊢
    exact hcontinued hc
  · rw [heardEntry_of_none hnone] at hmade ⊢
    exact hmade hc (by simp [PeerEntry.fresh])
  · rw [heardEntry_of_some hold] at hmade ⊢
    exact hmade hc

/-- Settles O35: the entry found is the one `recordClaim` makes of the sender's entry heard now. -/
theorem claimFrameRecorded : Obligations.ClaimFrameRecorded := by
  intro c n s hf hg hn ho hr ht
  refine ⟨_, exec_frameReceived_bytes hf hg hn ho hr ht, _,
    State.hearing_peer (recordHeard_claim ..) (by simp [heardEntry_number]), rfl, rfl, rfl, rfl, rfl, rfl, rfl,
    fun old hold => ?_, fun hnone => ?_, State.hearing_heardFrom ..⟩
  · rw [heardEntry_of_some hold]
    exact ⟨rfl, rfl, rfl⟩
  · rw [heardEntry_of_none hnone]
    exact ⟨rfl, rfl, rfl⟩

/-- A YIELD matches the claim of an entry in CLAIMING with its serial or with none (R80). -/
theorem PeerEntry.yieldMatches_iff (e : PeerEntry) (serial : Nat) :
    e.yieldMatches serial = true
      ↔ e.state = .claiming ∧ ∃ k, e.claim = some k ∧ (k.serial = some serial ∨ k.serial = none) := by
  simp [PeerEntry.yieldMatches, Option.any_eq_true]

/-- Settles O36: a YIELD by whether it matches, a DONE by what it makes of the entry, both by whether there is one. -/
theorem yieldAndDoneRecorded : Obligations.YieldAndDoneRecorded := by
  intro n s hg hn ho hr ht kept
  have hyield : ∀ serial, serial ≤ 255 →
      exec (.frameReceived ((Frame.yield serial).bytes n)) s = .next (s.hearing (.yield serial) n) := fun serial h =>
    exec_frameReceived_bytes (by simpa [Frame.inRange] using h) hg hn ho hr ht
  have hdone : ∀ outcome duration, duration ≤ 65535 →
      exec (.frameReceived ((Frame.done outcome duration).bytes n)) s = .next (s.hearing (.done outcome duration) n) :=
    fun outcome duration h => exec_frameReceived_bytes (by simpa [Frame.inRange] using h) hg hn ho hr ht
  have hyielded : ∀ old, s.peer n = some old → ∀ serial,
      (s.hearing (.yield serial) n).peer n = some ((old.hear s.now).recordYield serial) := fun old hold serial =>
    State.hearing_peer (recordHeard_yield hold ..) (by simpa using findPeer_number hold)
  refine ⟨fun old hold k hk hstate serial hs hserial => ?_, fun old hold serial hs hother => ?_,
    fun old hold outcome duration hd => ?_, fun hnone serial hs outcome duration hd => ?_⟩
  · refine ⟨_, hyield serial hs, State.hearing_heardFrom .., (hyielded old hold serial).trans ?_⟩
    have hmatch : (old.hear s.now).yieldMatches serial = true :=
      (PeerEntry.yieldMatches_iff ..).2 ⟨hstate, k, hk, hserial⟩
    rw [PeerEntry.recordYield, if_pos hmatch]
    rfl
  · refine ⟨_, hyield serial hs, State.hearing_heardFrom .., (hyielded old hold serial).trans ?_⟩
    have hmiss : ¬ (old.hear s.now).yieldMatches serial = true := fun h => by
      obtain ⟨hstate, k, hk, hserial⟩ := (PeerEntry.yieldMatches_iff ..).1 h
      rcases hother with hnot | hother
      · exact hnot hstate
      · exact hserial.elim (hother k hk).1 (hother k hk).2
    rw [PeerEntry.recordYield, if_neg hmiss]
    rfl
  · exact ⟨_, hdone outcome duration hd, State.hearing_heardFrom ..,
      State.hearing_peer (recordHeard_done hold ..) (by simpa using findPeer_number hold)⟩
  · exact ⟨⟨_, hyield serial hs, State.hearing_heardFrom .., State.hearing_peers_none hnone rfl⟩,
      _, hdone outcome duration hd, State.hearing_heardFrom .., State.hearing_peers_none hnone rfl⟩

end Sys2Proof.Machine
end

section
/-! PROOF. The table second (R82, R83): an entry as it ages and as its occupancy lapses, and what the rotation
controller is told of it. -/

namespace Sys2Proof.Machine

variable {s : State} {e : PeerEntry} {station : BitVec 4}

/-! ### One entry set -/

/-- After an entry is set and what follows has kept the table, the entry is found and every other stands. -/
theorem State.peer_of_setPeer {t : State} {n : Nat} (h : t.peers = (s.setPeer e).peers) (hn : e.number = n) :
    t.peer n = some e ∧ ∀ m, m ≠ n → t.peer m = s.peer m := by
  refine ⟨findPeer_of_putPeer h hn, fun m hm => ?_⟩
  rw [State.peer, h]
  exact findPeer_putPeer_other e s.peers (hn ▸ hm)

theorem State.setPeer_eq (e : PeerEntry) (s : State) : s.setPeer e = { s with peers := (s.setPeer e).peers } := rfl

/-! ### PEER_AGING -/

/-- The table second that ages an entry (R82), the change of the effective hold delivered (R88). -/
def State.agePeer (e : PeerEntry) (s : State) : State :=
  (s.setPeer { e with presence := e.aged s.now }).holdEvent s.effectiveHold

theorem exec_peerAging (he : s.peer station.toNat = some e) (hl : s.listening = true) :
    exec (.peerAging station) s = .next (s.agePeer e) := by
  have hx : exec (.peerAging station) s = execPeerAging station s := rfl
  simp only [hx, execPeerAging, he, hl, if_true]
  rfl

theorem State.agePeer_quiet (e : PeerEntry) (s : State) :
    Quiet { s with peers := (s.agePeer e).peers } (s.agePeer e) := by
  have h : Quiet (s.setPeer { e with presence := e.aged s.now }) (s.agePeer e) :=
    State.holdEvent_quiet _ _
  rw [h.peers, ← State.setPeer_eq]
  exact h

theorem PeerEntry.aged_fresh (h : e.presence = .fresh) (now : Nat) :
    e.aged now = if 3 * e.senderS.getD 10 < now - e.lastHeard then .stale else .fresh := by
  unfold PeerEntry.aged
  rw [h]
  rfl

theorem PeerEntry.aged_stale (h : e.presence = .stale) (now : Nat) :
    e.aged now = if 10 * e.senderS.getD 10 < now - e.lastHeard then .absent else .stale := by
  unfold PeerEntry.aged
  rw [h]
  rfl

theorem PeerEntry.aged_absent (h : e.presence = .absent) (now : Nat) : e.aged now = .absent := by
  unfold PeerEntry.aged
  rw [h]

/-! ### OCCUPANCY_LAPSE -/

/-- The state with an entry's occupancy cleared, before the rotation controller hears of it (R83, R107). -/
def State.clearOccupancy (e : PeerEntry) (s : State) : State :=
  (s.setPeer { e with occupancyUntil := none }).refreshOversub

theorem exec_occupancyLapse {until_ : Nat} (he : s.peer station.toNat = some e) (hl : s.listening = true)
    (hu : e.occupancyUntil = some until_) (hlt : until_ < s.now) :
    exec (.occupancyLapse station) s = .next (s.clearOccupancy e).rotationLapse := by
  have hx : exec (.occupancyLapse station) s = execOccupancyLapse station s := rfl
  have hlapses : e.lapses s.now = true := by simp [PeerEntry.lapses, hu, hlt]
  simp only [hx, execOccupancyLapse, he, hl, hlapses, Bool.and_self, if_true]
  rfl

theorem State.rotationLapse_of_not_queued (h : s.rot.service ≠ .queued) : s.rotationLapse = s := if_neg h

theorem State.rotationLapse_drive_seq (s : State) : s.rotationLapse.drive = s.drive ∧ s.rotationLapse.seq = s.seq := by
  unfold State.rotationLapse
  split
  · exact s.evaluate_drive_seq
  · exact ⟨rfl, rfl⟩

theorem State.clearOccupancy_oversub (e : PeerEntry) (s : State) :
    (s.clearOccupancy e).rot.oversub
      = (s.rot.service.occupies && decide (s.cfg.w < (s.clearOccupancy e).occupyingPeers + 1)) := rfl

theorem State.clearOccupancy_lapse_calm (e : PeerEntry) (s : State) :
    Calm { s with peers := (s.clearOccupancy e).rotationLapse.peers } (s.clearOccupancy e).rotationLapse := by
  have h : Calm (s.clearOccupancy e) (s.clearOccupancy e).rotationLapse := State.rotationLapse_calm _
  have hclear : Calm { s with peers := (s.clearOccupancy e).peers } (s.clearOccupancy e) := .of _ ..
  rw [h.peers]
  exact hclear.trans h

/-- Settles O37: the aged entry, and the entry with its occupancy cleared, set in the table; what the rotation
controller makes of either leaves the table alone. -/
theorem peersAgeAndLapse : Obligations.PeersAgeAndLapse := by
  refine ⟨fun station e s he hl => ?_, fun station e until_ s he hl hu hlt => ?_⟩
  · have hnum : e.number = station.toNat := findPeer_number he
    have hquiet := s.agePeer_quiet e
    obtain ⟨hdrive, hseq⟩ := (s.setPeer { e with presence := e.aged s.now }).holdEvent_drive_seq s.effectiveHold
    obtain ⟨hpeer, hothers⟩ := State.peer_of_setPeer (s := s) (e := { e with presence := e.aged s.now })
      (t := s.agePeer e) (State.holdEvent_quiet _ _).peers hnum
    refine ⟨_, _, exec_peerAging he hl, fun hun => ?_, hquiet, hdrive, hseq, hpeer, hothers,
      fun h => e.aged_fresh h _, fun h => e.aged_stale h _, fun h => e.aged_absent h _⟩
    have hun' : (s.setPeer { e with presence := e.aged s.now }).unclaimed := hun
    rw [State.agePeer, State.holdEvent_unclaimed hun', ← State.setPeer_eq]
  · have hnum : e.number = station.toNat := findPeer_number he
    obtain ⟨hdrive, hseq⟩ := (s.clearOccupancy e).rotationLapse_drive_seq
    obtain ⟨hpeer, hothers⟩ := State.peer_of_setPeer (s := s) (e := { e with occupancyUntil := none })
      (t := (s.clearOccupancy e).rotationLapse) (State.rotationLapse_calm _).peers hnum
    have hstays : s.rot.service ≠ .queued → (s.clearOccupancy e).rotationLapse = s.clearOccupancy e := fun hq =>
      State.rotationLapse_of_not_queued (s := s.clearOccupancy e) hq
    refine ⟨_, exec_occupancyLapse he hl hu hlt, fun hq => ?_, (s.clearOccupancy_lapse_calm e).quiet, hdrive, hseq,
      hpeer, hothers, fun hs => ?_⟩
    · rw [hstays hq]
      rfl
    · have hq : s.rot.service ≠ .queued := by rcases hs with h | h <;> simp [h]
      have hocc : s.rot.service.occupies = true := (ServiceState.occupies_iff _).2 hs.symm
      rw [hstays hq, State.clearOccupancy_oversub, hocc, Bool.true_and, decide_eq_true_eq]

end Sys2Proof.Machine
end

section
/-! PROOF. Rank (R85): outranking is the lexicographic order of the four values, station number last, and the values
compared of the own station and of a peer entry. -/

namespace Sys2Proof.Machine

/-! ### The order -/

/-- Outranking by the first of the four tests that tells the two apart (R85), held before not held as 1 before 0. -/
theorem Rank.beats_iff (a b : Rank) :
    a.beats b = true ↔ b.held.toNat < a.held.toNat
      ∨ a.held.toNat = b.held.toNat ∧ (b.urgency < a.urgency
        ∨ a.urgency = b.urgency ∧ (b.runTime < a.runTime ∨ a.runTime = b.runTime ∧ a.number < b.number)) := by
  unfold Rank.beats
  by_cases hheld : a.held = b.held
  · have hne : ¬ (a.held != b.held) = true := by rw [hheld, bne_self_eq_false]; exact Bool.false_ne_true
    have heq : a.held.toNat = b.held.toNat := congrArg _ hheld
    rw [if_neg hne]
    by_cases hurg : a.urgency = b.urgency
    · rw [if_neg (not_not_intro hurg)]
      by_cases hrun : a.runTime = b.runTime
      · rw [if_neg (not_not_intro hrun), decide_eq_true_eq]
        omega
      · rw [if_pos hrun, decide_eq_true_eq]
        omega
    · rw [if_pos hurg, decide_eq_true_eq]
      omega
  · rw [if_pos (bne_iff_ne.2 hheld)]
    cases ha : a.held <;> cases hb : b.held <;> simp_all

theorem Rank.not_beats_iff (a b : Rank) : a.beats b = false ↔ ¬ a.beats b = true := by
  rw [Bool.not_eq_true]

theorem Rank.beats_irrefl (a : Rank) : a.beats a = false := by
  rw [Rank.not_beats_iff, Rank.beats_iff]
  omega

theorem Rank.beats_trans {a b c : Rank} (hab : a.beats b = true) (hbc : b.beats c = true) : a.beats c = true := by
  rw [Rank.beats_iff] at *
  omega

/-- Between different station numbers the fourth test always decides (R85). -/
theorem Rank.beats_iff_not_beats {a b : Rank} (h : a.number ≠ b.number) : a.beats b = true ↔ b.beats a = false := by
  rw [Rank.not_beats_iff, Rank.beats_iff, Rank.beats_iff]
  omega

/-! ### The values compared -/

theorem State.ownRank_queued {s : State} (h : s.rot.service = .queued) :
    s.ownRank = some ⟨s.rot.held, s.cond.urgency, s.cond.runTime, s.ownNumber⟩ := by
  simp only [State.ownRank, h]

theorem State.ownRank_claiming {s : State} {c : Claimed} {f : ClaimFlags} (h : s.rot.service = .claiming)
    (hc : s.rot.claimed = some c) (hf : s.rot.claimFlags = some f) :
    s.ownRank = some ⟨f.held, c.urgency, c.runTime, s.ownNumber⟩ := by
  simp only [State.ownRank, h, hc, hf]

theorem State.ownRank_unclaimed {s : State} (h : s.unclaimed) : s.ownRank = none := by
  obtain ⟨hq, hc⟩ := h
  unfold State.ownRank
  split <;> first | rfl | contradiction

theorem PeerEntry.rank_queued {e : PeerEntry} (h : e.state = .queued) :
    e.rank = some ⟨(e.flags.map fun w => w.getLsbD 14).getD false, e.urgency, e.runTime, e.number⟩ := by
  have hheld : e.flags.any flagHeld = (e.flags.map fun w => w.getLsbD 14).getD false := by cases e.flags <;> rfl
  simp only [PeerEntry.rank, h, hheld]

theorem PeerEntry.rank_claiming {e : PeerEntry} {c : PeerClaim} (h : e.state = .claiming) (hc : e.claim = some c) :
    e.rank = some ⟨c.held, c.urgency, c.runTime, e.number⟩ := by
  simp only [PeerEntry.rank, h, hc, Option.map_some]

theorem State.outranks_eq (s : State) (e : PeerEntry) :
    s.outranks e = e.rank.any fun a => s.ownRank.any fun b => a.beats b := by
  unfold State.outranks
  cases e.rank <;> cases s.ownRank <;> rfl

/-- Settles O38: the order and its four tests by `Rank.beats_iff`, the values compared by state. -/
theorem rankIsStrictTotalOrder : Obligations.RankIsStrictTotalOrder := by
  refine ⟨Rank.beats_irrefl, fun a b c => Rank.beats_trans, fun a b => Rank.beats_iff_not_beats, fun a b ha hb => ?_,
    fun a b hh hu => ?_, fun a b hh hu hr => ?_, fun a b hh hu hr hn => ?_, fun s => ⟨State.ownRank_queued,
      fun c f => State.ownRank_claiming, State.ownRank_unclaimed, fun e => ⟨PeerEntry.rank_queued,
        fun c => PeerEntry.rank_claiming, by rw [State.outranks_eq]⟩⟩⟩
  all_goals rw [Rank.beats_iff]
  · exact .inl (by simp [ha, hb])
  · exact .inr ⟨congrArg _ hh, .inl hu⟩
  · exact .inr ⟨congrArg _ hh, .inr ⟨hu, .inl hr⟩⟩
  · exact .inr ⟨congrArg _ hh, .inr ⟨hu, .inr ⟨hr, hn⟩⟩⟩

end Sys2Proof.Machine
end

section
/-! PROOF. The stage, the service state, the activity of the sequencer and the ripening step: which operations keep the
three that are not the service state, and what a change of service state needs of them (R37, R112, R134). -/

namespace Sys2Proof.Machine

variable {s t u : State}

/-! ### Operations that keep the stage, the activity and the ripening step -/

/-- `t` has the stage, the sequencer's activity and the ripening step of `s`. -/
structure ModesKept (s t : State) : Prop where
  stage : t.startup.stage = s.startup.stage
  activity : t.seq.activity = s.seq.activity
  step : t.rip.step = s.rip.step

theorem ModesKept.refl (s : State) : ModesKept s s := ⟨rfl, rfl, rfl⟩

theorem ModesKept.trans (h : ModesKept s t) (k : ModesKept t u) : ModesKept s u :=
  ⟨k.stage.trans h.stage, k.activity.trans h.activity, k.step.trans h.step⟩

/-- Operations that change none of the three records keep the three modes. -/
theorem ModesKept.of_eq (hstage : t.startup = s.startup := by simp) (hseq : t.seq = s.seq := by simp)
    (hrip : t.rip = s.rip := by simp) : ModesKept s t :=
  ⟨congrArg _ hstage, congrArg _ hseq, congrArg _ hrip⟩

theorem ModesKept.foldl {α : Type} (f : State → α → State) (hf : ∀ s a, ModesKept s (f s a)) (l : List α) (s : State) :
    ModesKept s (l.foldl f s) := by
  induction l generalizing s with
  | nil => exact .refl s
  | cons a l ih => exact (hf s a).trans (ih (f s a))

variable (s)

theorem State.setDecision_modes (d : Option Nat) : ModesKept s (s.setDecision d) := by
  unfold State.setDecision
  dsimp only
  split <;> exact ⟨rfl, rfl, rfl⟩

theorem State.followDecision_modes : ModesKept s s.followDecision := by
  unfold State.followDecision
  split
  · exact s.setDecision_modes _
  · exact .refl s

/-- A change of service state changes neither the stage nor the sequencer nor the ripening step (R54). -/
theorem State.enterState_modes (new : ServiceState) : ModesKept s (s.enterState new) := by
  refine ⟨by simp, by simp, ?_⟩
  unfold State.enterState
  rw [State.urgencyOnEntry_rip, (State.followDecision_modes _).step]
  rfl

theorem State.changeState_modes (new : ServiceState) : ModesKept s (s.changeState new) :=
  (s.enterState_modes new).trans (t := s.enterState new) (.of_eq rfl rfl rfl)

theorem State.discardNotice_modes (f : Frame) : ModesKept s (s.discardNotice f) := by
  cases f with
  | claim c => exact .of_eq (s.claimDiscarded_startup _) (s.claimDiscarded_seq _) (s.claimDiscarded_rip _)
  | status _ | yield _ | done _ _ => exact .refl s

theorem State.evaluate_modes : ModesKept s s.evaluate := by
  unfold State.evaluate
  dsimp only
  split
  · exact .of_eq (by simp [State.makeClaim]) (by simp [State.makeClaim]) (by simp [State.makeClaim])
  all_goals exact .of_eq

theorem State.yieldFor_modes (why : Reason) : ModesKept s (s.yieldFor why) :=
  ModesKept.trans .of_eq (State.changeState_modes _ _)

theorem State.testYield_modes : ModesKept s s.testYield := by
  unfold State.testYield
  split
  · exact s.yieldFor_modes _
  · exact .refl s

theorem State.sentNotice_modes (f : Frame) : ModesKept s (s.sentNotice f) := by
  cases f with
  | status _ | yield _ | done _ _ => exact .refl s
  | claim c =>
    unfold State.sentNotice State.claimSent
    dsimp only
    repeat' split
    · exact (ModesKept.trans .of_eq (State.changeState_modes _ _)).trans (State.testYield_modes _)
    all_goals exact .of_eq

theorem State.rotationTick_modes : ModesKept s s.rotationTick := by
  unfold State.rotationTick
  split
  · exact s.evaluate_modes
  · exact s.testYield_modes
  all_goals exact .refl s

theorem State.rotationLapse_modes : ModesKept s s.rotationLapse := by
  unfold State.rotationLapse
  split
  · exact s.evaluate_modes
  · exact .refl s

theorem State.rotationFrame_modes (k : Option FrameKind) : ModesKept s (s.rotationFrame k) := by
  unfold State.rotationFrame
  repeat' split
  · exact s.evaluate_modes
  · exact .refl s
  · exact s.testYield_modes
  all_goals exact .refl s

theorem State.holdEvent_modes (b : Bool) : ModesKept s (s.holdEvent b) := by
  unfold State.holdEvent
  split
  · exact .refl s
  · exact s.rotationTick_modes

theorem State.closeOff_modes : ModesKept s s.closeOff := by
  unfold State.closeOff
  repeat' split
  all_goals exact .of_eq

theorem State.duplicateAddress_modes : ModesKept s s.duplicateAddress := by
  have hfold (l : List Frame) (x : State) : ModesKept x (l.foldl (fun (x : State) f => x.discardNotice f) x) :=
    ModesKept.foldl _ (fun x f => x.discardNotice_modes f) l x
  unfold State.duplicateAddress
  dsimp only
  repeat' split
  · exact .refl s
  · exact (ModesKept.trans .of_eq (hfold _ _)).trans (State.yieldFor_modes _ _)
  · exact ModesKept.trans .of_eq (hfold _ _)

theorem State.formDue_modes (b : Bool) : ModesKept s (s.formDue b) := by
  unfold State.formDue
  split <;> exact .of_eq

theorem State.frameSent_modes (f : Frame) : ModesKept s (s.frameSent f) :=
  (ModesKept.trans .of_eq (State.formDue_modes _ _)).trans (State.sentNotice_modes _ _)

theorem State.frameDiscarded_modes (f : Frame) : ModesKept s (s.frameDiscarded f) :=
  (ModesKept.trans .of_eq (State.formDue_modes _ _)).trans (State.discardNotice_modes _ _)

theorem State.attemptAbandoned_modes (f : Frame) : ModesKept s (s.attemptAbandoned f) := by
  unfold State.attemptAbandoned
  split
  · exact s.frameDiscarded_modes f
  · exact .of_eq

theorem State.echo_modes (bits : LineBits) : ModesKept s (s.echo bits) := by
  unfold State.echo State.echoOf
  repeat' split
  all_goals first
    | exact .refl s
    | exact s.frameSent_modes _
    | exact s.attemptAbandoned_modes _
    | exact .of_eq

/-! ### The drive unit's operations -/

theorem State.isolationRequest_modes : ModesKept s s.isolationRequest := by
  unfold State.isolationRequest
  exact .of_eq

theorem State.completeMove_modes (v : Valve) : ModesKept s (s.completeMove v) := by
  have hb (x : State) : ModesKept x x.blowerResume := by
    unfold State.blowerResume
    split <;> exact .of_eq
  have ho (x : State) : ModesKept x (x.openingCompleted v) := by
    cases v with
    | air => exact hb x
    | eff | ftw => exact .of_eq rfl rfl rfl
    | inf | drn | ww => exact .refl x
  unfold State.completeMove
  dsimp only
  repeat' split
  · exact ModesKept.trans .of_eq (ho _)
  · exact .of_eq
  · exact .refl s

theorem State.clearFaults_modes : ModesKept s s.clearFaults :=
  ModesKept.foldl _ (fun x v => by
    unfold State.clearFault
    dsimp only
    split
    · exact .of_eq
    · exact .refl x) _ s

theorem State.valveSeconds_modes : ModesKept s s.valveSeconds := ModesKept.foldl _ (fun _ _ => .of_eq) _ s

theorem State.pulseSecond_modes : ModesKept s s.pulseSecond := by
  unfold State.pulseSecond
  split <;> exact .of_eq

theorem State.blowerEndPulsed_modes : ModesKept s s.blowerEndPulsed := by
  unfold State.blowerEndPulsed
  split <;> exact .of_eq

theorem State.blowerClear_modes : ModesKept s s.blowerClear := by
  unfold State.blowerClear
  split <;> exact .of_eq

end Sys2Proof.Machine
end

section
/-! PROOF. Every step keeps start-up, wash and ripening in their service states, and the delivered triggers naming the
state that stands (R37, R112, R134, R34). A wash is left by its end alone (R131), a ripening by its success, its failure
or an isolation (R140 to R142); outside both every change of service state is free. -/

namespace Sys2Proof.Machine

variable {s t : State}

/-! ### The invariant and the situations it leaves -/

/-- Start-up, wash and ripening stand in their service states (R37, R112, R134). -/
structure ModesConfined (s : State) : Prop where
  start : s.startConfined
  wash : s.washConfined
  ripening : s.ripeningConfined

/-- What every step keeps: the modes confined, and the waiting triggers naming the service state (R34). -/
structure Confined (s : State) : Prop extends ModesConfined s where
  named : s.deliveredNamed

theorem Confined.parts (h : Confined s) :
    s.startConfined ∧ s.washConfined ∧ s.ripeningConfined ∧ s.deliveredNamed :=
  ⟨h.start, h.wash, h.ripening, h.named⟩

/-- RUNNING with neither a wash nor a ripening under way: any service state may be taken. -/
structure Settled (s : State) : Prop where
  running : s.startup.stage = .running
  idle : s.seq.activity = .idle
  unripened : s.rip.step = .idle

/-- WASHING: the sequencer may do anything. -/
structure InWash (s : State) : Prop where
  running : s.startup.stage = .running
  washing : s.rot.service = .washing
  unripened : s.rip.step = .idle

/-- RIPENING: the ripening record may do anything. -/
structure InRipening (s : State) : Prop where
  running : s.startup.stage = .running
  ripening : s.rot.service = .ripening
  idle : s.seq.activity = .idle

theorem Settled.confined (h : Settled s) : ModesConfined s :=
  ⟨fun hn => absurd h.running hn, fun hn => absurd h.idle hn, fun hn => absurd h.unripened hn⟩

theorem InWash.confined (h : InWash s) : ModesConfined s :=
  ⟨fun hn => absurd h.running hn, fun _ => h.washing, fun hn => absurd h.unripened hn⟩

theorem InRipening.confined (h : InRipening s) : ModesConfined s :=
  ⟨fun hn => absurd h.running hn, fun hn => absurd h.idle hn, fun _ => h.ripening⟩

theorem ModesConfined.running (h : ModesConfined s) (hs : s.rot.service ≠ .start) : s.startup.stage = .running :=
  Decidable.of_not_not fun hn => hs (h.start hn)

theorem ModesConfined.idle (h : ModesConfined s) (hs : s.rot.service ≠ .washing) : s.seq.activity = .idle :=
  Decidable.of_not_not fun hn => hs (h.wash hn)

theorem ModesConfined.unripened (h : ModesConfined s) (hs : s.rot.service ≠ .ripening) : s.rip.step = .idle :=
  Decidable.of_not_not fun hn => hs (h.ripening hn)

/-- With start-up over, every service state but WASHING and RIPENING is settled. -/
theorem ModesConfined.settled (h : ModesConfined s) (hr : s.startup.stage = .running) (hw : s.rot.service ≠ .washing)
    (hp : s.rot.service ≠ .ripening) : Settled s := ⟨hr, h.idle hw, h.unripened hp⟩

theorem ModesConfined.settled_of {x : ServiceState} (h : ModesConfined s) (hx : s.rot.service = x)
    (hs : x ≠ .start ∧ x ≠ .washing ∧ x ≠ .ripening := by decide) : Settled s := by
  subst hx
  exact h.settled (h.running hs.1) hs.2.1 hs.2.2

theorem ModesConfined.inWash (h : ModesConfined s) (hs : s.rot.service = .washing) : InWash s :=
  ⟨h.running (by simp [hs]), hs, h.unripened (by simp [hs])⟩

theorem ModesConfined.inRipening (h : ModesConfined s) (hs : s.rot.service = .ripening) : InRipening s :=
  ⟨h.running (by simp [hs]), hs, h.idle (by simp [hs])⟩

/-- A sequencer that is not IDLE is washing (R112). -/
theorem ModesConfined.inWash_of_activity (h : ModesConfined s) (ha : s.seq.activity ≠ .idle) : InWash s :=
  h.inWash (h.wash ha)

theorem ModesConfined.congr (h : ModesConfined s) (hs : t.rot.service = s.rot.service) (k : ModesKept s t) :
    ModesConfined t := by
  refine ⟨?_, ?_, ?_⟩
  · intro hn
    rw [hs]
    exact h.start (k.stage ▸ hn)
  · intro hn
    rw [hs]
    exact h.wash (k.activity ▸ hn)
  · intro hn
    rw [hs]
    exact h.ripening (k.step ▸ hn)

theorem ModesConfined.calm (h : ModesConfined s) (c : Calm s t) (k : ModesKept s t := by exact .of_eq) :
    ModesConfined t := h.congr c.service k

theorem Settled.kept (h : Settled s) (k : ModesKept s t := by exact .of_eq) : Settled t :=
  ⟨k.stage.trans h.running, k.activity.trans h.idle, k.step.trans h.unripened⟩

theorem InWash.calm (h : InWash s) (c : Calm s t) (k : ModesKept s t := by exact .of_eq) : InWash t :=
  ⟨k.stage.trans h.running, c.service.trans h.washing, k.step.trans h.unripened⟩

theorem InWash.setSeq (h : InWash s) (q : Sequencer) : InWash (s.setSeq q) := ⟨h.running, h.washing, h.unripened⟩

theorem InRipening.calm (h : InRipening s) (c : Calm s t) (k : ModesKept s t := by exact .of_eq) : InRipening t :=
  ⟨k.stage.trans h.running, c.service.trans h.ripening, k.activity.trans h.idle⟩

theorem InRipening.setRip (h : InRipening s) (r : Ripening) : InRipening (s.setRip r) := ⟨h.running, h.ripening, h.idle⟩

/-- A settled station takes any service state. -/
theorem Settled.changeState (h : Settled s) (new : ServiceState) : Settled (s.changeState new) :=
  h.kept (s.changeState_modes new)

theorem Settled.changeState_ripening (h : Settled s) : InRipening (s.changeState .ripening) :=
  ⟨(h.changeState _).running, s.changeState_service _, (h.changeState _).idle⟩

theorem ModesConfined.foldl {α : Type} (f : State → α → State) (hf : ∀ s a, ModesConfined s → ModesConfined (f s a))
    (l : List α) (h : ModesConfined s) : ModesConfined (l.foldl f s) := by
  induction l generalizing s with
  | nil => exact h
  | cons a l ih => exact ih (hf s a h)

/-! ### Isolation and ripening -/

/-- A ripening that is given up leaves a settled station (R142). -/
theorem ModesConfined.abandonRipening (h : ModesConfined s) (hs : s.rot.service ≠ .start)
    (hw : s.rot.service ≠ .washing) : Settled s.abandonRipening := by
  unfold State.abandonRipening
  split
  · exact ⟨h.running hs, h.idle hw, rfl⟩
  next hp => exact h.settled (h.running hs) hw hp

/-- An isolation outside a wash (R42, R43). -/
theorem ModesConfined.isolateTo (h : ModesConfined s) (hs : s.rot.service ≠ .start) (hw : s.rot.service ≠ .washing)
    (new : ServiceState) : ModesConfined (s.isolateTo new) := by
  have hc := s.closeOff_calm
  have ha := (h.calm hc s.closeOff_modes).abandonRipening (hc.service ▸ hs) (hc.service ▸ hw)
  exact ((ha.kept (State.isolationRequest_modes _)).changeState
    new).confined

theorem ModesConfined.faultOutsideWash (h : ModesConfined s) (v : Valve) : ModesConfined (s.faultOutsideWash v) := by
  unfold State.faultOutsideWash
  split
  next hv => exact h.isolateTo (by intro hs; simp [isolatesOn, hs] at hv) (by intro hs; simp [isolatesOn, hs] at hv) _
  · exact h

theorem InRipening.ripeningOpened (h : InRipening s) : InRipening s.ripeningOpened := by
  unfold State.ripeningOpened
  split
  · exact h
  · exact h.setRip _

theorem InRipening.ripeningClosed (h : InRipening s) : InRipening s.ripeningClosed := by
  unfold State.ripeningClosed
  split
  · exact h
  · exact ((h.setRip _).calm (State.requestMoves_calm _ _ _ _)).ripeningOpened

theorem InRipening.startRipening (h : InRipening s) : InRipening s.startRipening := by
  unfold State.startRipening
  exact (h.setRip _).calm (State.requestMoves_calm _ _ _ _)

theorem Settled.takeRipened (h : Settled s) : ModesConfined s.takeRipened := by
  unfold State.takeRipened
  split
  · refine (Settled.changeState ?_ _).confined
    exact ⟨h.running, h.idle, h.unripened⟩
  · exact (h.changeState _).confined

/-- A ripening's success leaves its record at IDLE before the service state changes (R140, R46). -/
theorem InRipening.ripeningSucceeded (h : InRipening s) : ModesConfined s.ripeningSucceeded :=
  Settled.takeRipened ⟨h.running, h.idle, rfl⟩

theorem InRipening.ripeningEnding (h : InRipening s) : ModesConfined s.ripeningEnding := by
  unfold State.ripeningEnding
  split
  · exact h.ripeningSucceeded
  · exact h.confined

theorem InRipening.ripeningSuccess (h : InRipening s) : ModesConfined s.ripeningSuccess :=
  ((h.setRip _).calm (State.requestMove_calm _ _ _ _)).ripeningEnding

theorem InRipening.ripeningFailed (h : InRipening s) : ModesConfined s.ripeningFailed := by
  have hf : InRipening { s with rot := { s.rot with ripenFail := true } } := ⟨h.running, h.ripening, h.idle⟩
  exact hf.confined.isolateTo (by simp [h.ripening]) (by simp [h.ripening]) _

theorem InRipening.ripeningSteps (h : InRipening s) : ModesConfined s.ripeningSteps := by
  have hc : InRipening s.ripeningCount := h.setRip _
  unfold State.ripeningSteps
  dsimp only
  repeat' split
  · exact hc.ripeningSuccess
  · exact hc.ripeningFailed
  · exact hc.ripeningSuccess
  · exact hc.confined

theorem InRipening.ripeningProgress (h : InRipening s) : ModesConfined s.ripeningProgress := by
  unfold State.ripeningProgress
  split
  · exact h.ripeningClosed.confined
  · exact h.ripeningOpened.confined
  · exact h.ripeningEnding
  all_goals exact h.confined

/-- The loss of CH1 changes no ripening step (R139). -/
theorem State.ripeningChannelLost_modes (s : State) : ModesKept s s.ripeningChannelLost := by
  unfold State.ripeningChannelLost
  split <;> exact ⟨rfl, rfl, rfl⟩

/-! ### The wash -/

/-- The end of a wash leaves the sequencer IDLE as the service state changes (R131, R45). -/
theorem InWash.endWash (h : InWash s) (o : WashOutcome) : ModesConfined (s.endWash o) := by
  have he : Settled (((s.offer (.done o s.seq.washClock)).setSeq (s.offer (.done o s.seq.washClock)).seq.ended)) :=
    have ho := h.calm (s.offer_calm (.done o s.seq.washClock))
    ⟨ho.running, rfl, ho.unripened⟩
  unfold State.endWash State.takeWashEnd
  dsimp only
  generalize (s.offer (.done o s.seq.washClock)).setSeq _ = t at he
  have ht : Settled { t with rot := { t.rot with deferredTakeOut := false } } := he.kept (.of_eq rfl rfl rfl)
  repeat' split
  · exact ((ht.kept (State.isolationRequest_modes _)).changeState
      _).confined
  · exact ht.changeState_ripening.startRipening.ripeningClosed.confined
  all_goals exact (ht.changeState _).confined

theorem InWash.abortProgress (h : InWash s) : ModesConfined s.abortProgress := by
  unfold State.abortProgress
  split
  · exact h.confined
  · exact h.endWash _

theorem InWash.abortPath (h : InWash s) (c : AbortCause) : ModesConfined (s.abortPath c) := by
  have hu (q : Sequencer) : InWash (((s.setSeq q).blowerStop).requestMoves .sequencer .closedEnd allValves) :=
    ((h.setSeq q).calm (State.blowerStop_calm _) (.of_eq rfl rfl rfl)).calm (State.requestMoves_calm _ _ _ _)
  unfold State.abortPath
  dsimp only
  split
  · exact ((hu _).setSeq _).abortProgress
  · exact (hu _).abortProgress

theorem InWash.entryComplete (h : InWash s) (a : Activity) : InWash (s.entryComplete a) := by
  unfold State.entryComplete
  dsimp only
  split
  · refine InWash.setSeq (h.calm s.blowerPulsed_calm ?_) _
    unfold State.blowerPulsed
    split <;> exact .of_eq
  · exact (h.calm s.blowerContinuous_calm (.of_eq rfl rfl rfl)).setSeq _
  all_goals exact h.setSeq _

section Entry

variable {done : State → State} (hd : ∀ s, InWash s → ModesConfined (done s))
include hd

theorem InWash.entryOpened (h : InWash s) (a : Activity) : ModesConfined (s.entryOpened a done) := by
  unfold State.entryOpened
  generalize (if a = .airWater then [Valve.drn, .ww, .air] else phaseOpens s.seq.airSkipped a) = vs
  split
  · exact h.confined
  · exact hd _ (h.entryComplete a)

theorem InWash.entryClosed (h : InWash s) (a : Activity) : ModesConfined (s.entryClosed a done) := by
  have ht (vs : List Valve) :=
    (h.setSeq { s.seq with subStep := some .opening }).calm (State.requestMoves_calm _ .sequencer .openEnd vs)
  unfold State.entryClosed State.entryOpening
  dsimp only
  repeat' split
  · exact h.confined
  · exact (ht _).abortPath _
  · exact (ht _).entryOpened hd a

theorem InWash.enterPhase (h : InWash s) (a : Activity) : ModesConfined (s.enterPhase a done) := by
  have hb : InWash (if phaseBlower s.seq.airSkipped a = .stopped then s.blowerStop else s) := by
    split
    · exact h.calm s.blowerStop_calm (.of_eq rfl rfl rfl)
    · exact h
  unfold State.enterPhase
  dsimp only
  generalize (if phaseBlower s.seq.airSkipped a = .stopped then s.blowerStop else s) = t at hb ⊢
  have hu (q : Sequencer) (vs : List Valve) := (hb.setSeq q).calm (State.requestMoves_calm _ .sequencer .closedEnd vs)
  split
  · exact (hu _ _).abortPath _
  · exact (hu _ _).entryClosed hd a

end Entry

/-- A phase that runs is a phase of a wash. -/
theorem ModesConfined.inWash_of_runningIn {a : Activity} (h : ModesConfined s) (hr : s.runningIn a = true)
    (ha : a ≠ .idle := by decide) : InWash s := by
  have hact : s.seq.activity = a := by simp_all [State.runningIn]
  exact h.inWash_of_activity (hact ▸ ha)

theorem ModesConfined.refillTest (h : ModesConfined s) : ModesConfined s.refillTest := by
  unfold State.refillTest
  split
  next hr =>
    simp only [Bool.and_eq_true] at hr
    exact (h.inWash_of_runningIn hr.1.1).endWash _
  · exact h

theorem InWash.enterRefill (h : InWash s) : ModesConfined s.enterRefill :=
  h.enterPhase (fun _ ht => ht.confined.refillTest) _

theorem InWash.endRinseShort (h : InWash s) : ModesConfined s.endRinseShort := (h.setSeq _).enterRefill

theorem InWash.suspendRinse (h : InWash s) : ModesConfined s.suspendRinse := by
  have ht := (h.setSeq { s.seq with rinseWater := some .suspended }).calm
    (State.requestMove_calm _ .sequencer .closedEnd .ww)
  unfold State.suspendRinse
  dsimp only
  repeat' split
  · exact ht.abortPath _
  · exact ht.endRinseShort
  · exact ht.confined

theorem InWash.rinseFlows (h : InWash s) : InWash s.rinseFlows := by
  unfold State.rinseFlows
  split
  · exact h.setSeq _
  · exact h

theorem InWash.resumeRinse (h : InWash s) : ModesConfined s.resumeRinse := by
  have ht := (h.setSeq { s.seq with rinseWater := some .resuming }).calm
    (State.requestMove_calm _ .sequencer .openEnd .ww)
  unfold State.resumeRinse
  dsimp only
  split
  · exact ht.abortPath _
  · exact ht.rinseFlows.confined

theorem ModesConfined.rinseTest (h : ModesConfined s) : ModesConfined s.rinseTest := by
  unfold State.rinseTest
  split
  next hr =>
    have hw := h.inWash_of_runningIn hr
    repeat' split
    all_goals first | exact h | exact hw.suspendRinse | exact hw.resumeRinse
  · exact h

theorem InWash.enterRinse (h : InWash s) : ModesConfined s.enterRinse :=
  h.enterPhase (fun _ ht => ht.confined.rinseTest) _

theorem InWash.endAir (h : InWash s) : ModesConfined s.endAir := by
  have ht := h.calm s.blowerEndPulsed_calm s.blowerEndPulsed_modes
  unfold State.endAir
  dsimp only
  repeat' split
  · exact ht.enterPhase (fun _ hx => hx.confined) _
  · exact (ht.calm (State.setAirEndStop_calm _ _)).enterRinse
  · exact ht.enterRinse

theorem InWash.enterAir (h : InWash s) : ModesConfined s.enterAir := h.enterPhase (fun _ ht => ht.confined) _

theorem ModesConfined.lowerTest (h : ModesConfined s) : ModesConfined s.lowerTest := by
  unfold State.lowerTest
  split
  next hr =>
    simp only [Bool.and_eq_true] at hr
    exact (h.inWash_of_runningIn hr.1.1).enterAir
  · exact h

theorem InWash.startWash (h : InWash s) : ModesConfined s.startWash :=
  ((h.setSeq _).calm (State.blowerClear_calm _) (State.blowerClear_modes _)).enterPhase
    (fun _ ht => ht.confined.lowerTest) _

theorem InWash.phaseDone (h : InWash s) (a : Activity) : ModesConfined (phaseDone a s) := by
  cases a with
  | lower => exact h.confined.lowerTest
  | rinse => exact h.confined.rinseTest
  | refill => exact h.confined.refillTest
  | air | airWater | idle | abortPath => exact h.confined

theorem InWash.washProgress (h : InWash s) : ModesConfined s.washProgress := by
  unfold State.washProgress
  split
  · exact h.abortProgress
  · exact h.confined
  · exact h.entryClosed (fun _ ht => ht.phaseDone _) _
  · exact h.entryOpened (fun _ ht => ht.phaseDone _) _
  · exact h.rinseFlows.confined
  · exact h.confined

theorem InWash.faultInWash (h : InWash s) : ModesConfined s.faultInWash := by
  unfold State.faultInWash
  split
  · exact h.confined
  · exact (h.setSeq _).abortProgress
  all_goals exact h.abortPath _

theorem InWash.giveUpAir (h : InWash s) : ModesConfined s.giveUpAir := by
  have ht := h.calm (s.requestMove_calm .sequencer .closedEnd .air)
  unfold State.giveUpAir
  dsimp only
  split
  · exact ht.abortPath _
  · exact ht.confined

theorem InWash.blowerFaultInWash (h : InWash s) : ModesConfined s.blowerFaultInWash := by
  have ht := h.setSeq { s.seq with airSkipped := true }
  unfold State.blowerFaultInWash
  dsimp only
  repeat' split
  · exact ht.endAir
  · exact ht.confined
  · exact ht.giveUpAir
  all_goals exact ht.confined

/-! ### The sequence second (R116) -/

theorem InWash.lowerSecond (h : InWash s) : ModesConfined s.lowerSecond := by
  unfold State.lowerSecond
  dsimp only
  repeat' split
  · exact (h.setSeq _).enterAir
  · exact ((h.setSeq _).setSeq _).enterAir
  · exact (h.setSeq _).confined

theorem InWash.airSecond (h : InWash s) : ModesConfined s.airSecond := by
  unfold State.airSecond
  dsimp only
  split
  · exact (h.setSeq _).endAir
  · exact (h.setSeq _).confined

theorem InWash.airWaterSecond (h : InWash s) : ModesConfined s.airWaterSecond := by
  unfold State.airWaterSecond
  dsimp only
  split
  · exact (h.setSeq _).enterRinse
  · exact (h.setSeq _).confined

theorem InWash.rinseSecond (h : InWash s) : ModesConfined s.rinseSecond := by
  unfold State.rinseSecond
  dsimp only
  repeat' split
  · exact (h.setSeq _).enterRefill
  · exact (h.setSeq _).confined.rinseTest
  · exact (h.setSeq _).endRinseShort
  · exact (h.setSeq _).confined.rinseTest
  · exact (h.setSeq _).endRinseShort
  · exact (h.setSeq _).confined.rinseTest
  · exact (h.setSeq _).confined

theorem InWash.refillSecond (h : InWash s) : ModesConfined s.refillSecond := by
  unfold State.refillSecond
  dsimp only
  repeat' split
  · exact (h.setSeq _).endWash _
  · exact ((h.setSeq _).setSeq _).endWash _
  · exact (h.setSeq _).confined

theorem ModesConfined.sequenceSteps (h : ModesConfined s) : ModesConfined s.sequenceSteps := by
  unfold State.sequenceSteps
  split
  · exact h
  next ha =>
    have hc : InWash s.clockSecond := (h.inWash_of_activity ha).setSeq _
    dsimp only
    split
    · exact hc.lowerSecond
    · exact hc.airSecond
    · exact hc.airWaterSecond
    · exact hc.rinseSecond
    · exact hc.refillSecond
    · exact hc.confined

end Sys2Proof.Machine
end

section
/-! PROOF. Every step keeps start-up, wash and ripening confined and the triggers named, continued: the drive unit's
news, start-up, the link and the port, and every command in turn (R37, R112, R134, R34). -/

namespace Sys2Proof.Machine

variable {s t : State}

/-! ### Start-up (R159 to R167) -/

/-- START: neither a wash nor a ripening has begun, whatever the stage. -/
structure InStart (s : State) : Prop where
  starting : s.rot.service = .start
  idle : s.seq.activity = .idle
  unripened : s.rip.step = .idle

theorem InStart.confined (h : InStart s) : ModesConfined s :=
  ⟨fun _ => h.starting, fun hn => absurd h.idle hn, fun hn => absurd h.unripened hn⟩

theorem InStart.calm (h : InStart s) (c : Calm s t) (hseq : t.seq = s.seq := by simp) (hrip : t.rip = s.rip := by simp) :
    InStart t := ⟨c.service.trans h.starting, hseq ▸ h.idle, hrip ▸ h.unripened⟩

/-- Before RUNNING the service state is START (R37). -/
theorem ModesConfined.inStart {x : Stage} (h : ModesConfined s) (hx : s.startup.stage = x)
    (hn : x ≠ .running := by decide) : InStart s := by
  have hs := h.start (hx ▸ hn)
  exact ⟨hs, h.idle (by simp [hs]), h.unripened (by simp [hs])⟩

theorem InStart.startRunning (h : InStart s) : Settled s.startRunning := ⟨rfl, h.idle, h.unripened⟩

theorem State.startUp_inStart (s : State) : InStart s.startUp := ⟨rfl, rfl, rfl⟩

theorem InStart.load (h : InStart s) : InStart s.load := by
  unfold State.load
  dsimp only
  split <;> exact ⟨h.starting, h.idle, h.unripened⟩

theorem InStart.survey (h : InStart s) : InStart s.survey :=
  h.calm s.survey_calm (by simp [State.survey, allValves, State.surveyValve])
    (by simp [State.survey, allValves, State.surveyValve])

theorem ModesConfined.endInputs (h : ModesConfined s) : ModesConfined s.endInputs := by
  unfold State.endInputs
  split
  next hi => exact (h.inStart hi.1).survey.confined
  · exact h

theorem ModesConfined.recoveryProgress (h : ModesConfined s) : ModesConfined s.recoveryProgress := by
  unfold State.recoveryProgress
  split
  next hr =>
    have hs := (h.inStart hr.1).startRunning
    repeat' split
    · exact (hs.changeState _).confined
    · exact (hs.changeState _).confined
    · exact h
  · exact h

theorem InStart.beginRecovery (h : InStart s) : ModesConfined s.beginRecovery := by
  unfold State.beginRecovery
  refine (InStart.calm (s := { s with
    rot := { s.rot with held := true, recovery := true }
    startup := { s.startup with stage := .recovery } }) ?_ (State.requestMoves_calm _ _ _ _)).confined.recoveryProgress
  exact ⟨h.starting, h.idle, h.unripened⟩

theorem State.takePosition_modes (v : Valve) (s : State) : ModesKept s (s.takePosition v) := by
  unfold State.takePosition
  split
  · exact .of_eq
  · exact .refl s

theorem State.takePosition_calm (v : Valve) (s : State) : Calm s (s.takePosition v) := by
  unfold State.takePosition
  split
  · exact s.setValve_calm _ _
  · exact .refl s

/-- RELEASE takes the first service state, or begins recovery in START (R166, R167). -/
theorem InStart.release (h : InStart s) : ModesConfined s.release := by
  have ht : InStart (allValves.foldl (fun (x : State) v => x.takePosition v) s) := by
    have hc := Calm.foldl (fun (x : State) v => x.takePosition v) (fun x v => x.takePosition_calm v) allValves s
    have hk := ModesKept.foldl (fun (x : State) v => x.takePosition v) (fun x v => x.takePosition_modes v) allValves s
    exact ⟨hc.service.trans h.starting, hk.activity.trans h.idle, hk.step.trans h.unripened⟩
  unfold State.release
  dsimp only
  generalize allValves.foldl (fun (x : State) v => x.takePosition v) s = t at ht
  have hu : InStart { t with startup := { t.startup with selection := some t.rechecked } } :=
    ⟨ht.starting, ht.idle, ht.unripened⟩
  split
  · refine (Settled.changeState ?_ _).confined
    exact hu.startRunning.kept
  · exact (hu.startRunning.changeState _).confined
  · exact hu.beginRecovery

/-! ### The drive unit's news (R147 to R156) -/

theorem ModesConfined.progress (h : ModesConfined s) : ModesConfined s.progress := by
  unfold State.progress
  split
  next => exact h.recoveryProgress
  next hs => exact (h.inWash hs).washProgress
  next hs => exact (h.inRipening hs).ripeningProgress
  all_goals exact h

theorem ModesConfined.moveCompleted (h : ModesConfined s) (v : Valve) : ModesConfined (s.moveCompleted v) :=
  (h.calm (s.completeMove_calm v) (s.completeMove_modes v)).progress

theorem ModesConfined.reportFault (h : ModesConfined s) (v : Valve) : ModesConfined (s.reportFault v) := by
  unfold State.reportFault
  split
  next => exact h.recoveryProgress
  next hs => exact (h.inWash hs).faultInWash
  next =>
    dsimp only
    split
    next hs => exact ((h.faultOutsideWash v).inRipening hs).ripeningProgress
    next => exact h.faultOutsideWash v
  all_goals exact h.faultOutsideWash v

theorem ModesConfined.valveFaults (h : ModesConfined s) (v : Valve) (k : FaultKind) : ModesConfined (s.valveFaults v k) :=
  (h.calm (s.faultValve_calm v k) (.of_eq rfl rfl rfl)).reportFault v

theorem ModesConfined.driftLoss (h : ModesConfined s) (v : Valve) (e : ValveEnd) : ModesConfined (s.driftLoss v e) := by
  unfold State.driftLoss
  split
  · exact h.valveFaults v _
  · exact h.calm (s.redriveValve_calm v e) (.of_eq rfl rfl rfl)

theorem ModesConfined.switchChanged (h : ModesConfined s) (v : Valve) : ModesConfined (s.switchChanged v) := by
  unfold State.switchChanged State.switchWhileDriving
  repeat' split
  · exact h
  · exact h.valveFaults v _
  · exact h.calm (s.setValve_calm v _)
  · exact h.moveCompleted v
  · exact h
  · exact h.driftLoss v _
  · exact h

theorem ModesConfined.setSwitches (h : ModesConfined s) (v : Valve) (w : Switches) : ModesConfined (s.setSwitches v w) :=
  h.calm (s.setSwitches_calm v w)

theorem ModesConfined.targetSwitch (h : ModesConfined s) (v : Valve) : ModesConfined (s.targetSwitch v) := by
  unfold State.targetSwitch
  split
  · exact (h.setSwitches v _).switchChanged v
  · exact h

theorem ModesConfined.loseRest (h : ModesConfined s) (v : Valve) : ModesConfined (s.loseRest v) := by
  unfold State.loseRest
  repeat' split
  · exact (h.setSwitches v _).switchChanged v
  all_goals exact h

theorem ModesConfined.endPause (h : ModesConfined s) (v : Valve) : ModesConfined (s.endPause v) := by
  have ht := h.calm (s.setValve_calm v (s.valve v).second)
  unfold State.endPause
  dsimp only
  repeat' split
  · exact ht.moveCompleted v
  · exact ht
  · exact h

theorem ModesConfined.timeOut (h : ModesConfined s) (v : Valve) : ModesConfined (s.timeOut v) := by
  unfold State.timeOut
  split
  · exact h.valveFaults v _
  · exact h

theorem ModesConfined.completeMade (h : ModesConfined s) (v : Valve) : ModesConfined (s.completeMade v) := by
  unfold State.completeMade
  split
  · exact h.moveCompleted v
  · exact h

theorem ModesConfined.blowerFaults (h : ModesConfined s) : ModesConfined s.blowerFaults := by
  unfold State.blowerFaults
  split
  next hs => exact (h.inWash hs).blowerFaultInWash
  · exact h

theorem ModesConfined.feedbackSecond (h : ModesConfined s) : ModesConfined s.feedbackSecond := by
  have ht (b : BlowerRec) := h.calm (s.setBlower_calm b)
  unfold State.feedbackSecond
  dsimp only
  split
  · exact (ht _).blowerFaults
  · exact ht _

theorem ModesConfined.driveSteps (h : ModesConfined s) : ModesConfined s.driveSteps := by
  have ha := h.calm s.valveSeconds_calm s.valveSeconds_modes
  have hb := ha.foldl (fun (t : State) v => t.completeMade v) (fun _ v ht => ht.completeMade v) allValves
  have hc := hb.foldl (fun (t : State) v => t.timeOut v) (fun _ v ht => ht.timeOut v) allValves
  exact hc.feedbackSecond.calm (State.pulseSecond_calm _) (State.pulseSecond_modes _)

theorem ModesConfined.pressureChanged (h : ModesConfined s) (made : Bool) : ModesConfined (s.pressureChanged made) := by
  have hp : ModesConfined { s with pins := { s.pins with pressure := made } } := h.congr rfl (.of_eq rfl rfl rfl)
  have hb (b : BlowerRec) := hp.calm (State.setBlower_calm _ b)
  unfold State.pressureChanged
  dsimp only
  repeat' split
  · exact hb _
  · exact (hb _).blowerFaults
  · exact hp
  · exact (hb _).blowerFaults
  · exact hp

/-- A return to service begins a ripening, which the faults that are left may end at once (R49, R153). -/
theorem Settled.returnToService (h : Settled s) : ModesConfined s.returnToService := by
  unfold State.returnToService
  dsimp only
  have hx : Settled { s with
      rot := { s.rot with held := false, recovery := false, ripenFail := false }
      cond := { s.cond with shortRun := false } } := h.kept (.of_eq rfl rfl rfl)
  generalize ({ s with
      rot := { s.rot with held := false, recovery := false, ripenFail := false }
      cond := { s.cond with shortRun := false } } : State) = x at hx
  have hu := (hx.kept x.clearFaults_modes).changeState_ripening.startRipening.confined
  have hw := hu.foldl (fun (x : State) v => x.reportLeft v) (fun y v hy => by
    unfold State.reportLeft
    split
    · exact hy.faultOutsideWash v
    · exact hy) allValves
  split
  next hs => exact (hw.inRipening hs).ripeningClosed.confined
  · exact hw

/-! ### Samples (R3, R15) -/

theorem ModesConfined.followDecision (h : ModesConfined s) : ModesConfined s.followDecision :=
  h.calm s.followDecision_calm s.followDecision_modes

theorem ModesConfined.channelNews (h : ModesConfined s) (ch : Channel) (b : State) :
    ModesConfined (s.channelNews ch b) := by
  cases ch with
  | ch0 | ch3 => exact h
  | ch1 =>
    unfold State.channelNews State.turbidityNews
    dsimp only
    split
    · exact h.followDecision.calm (State.ripeningChannelLost_calm _) (State.ripeningChannelLost_modes _)
    · exact h.followDecision
  | ch2 =>
    unfold State.channelNews State.levelNews
    dsimp only
    repeat' split
    · exact h.lowerTest.refillTest
    · exact h.lowerTest
    · exact h.refillTest
    · exact h
  | ch4 =>
    unfold State.channelNews State.tankNews
    dsimp only
    repeat' split
    next hr =>
      simp only [State.rinseSuspended, Bool.and_eq_true] at hr
      exact (h.inWash_of_runningIn hr.1).resumeRinse
    · exact h
    · exact h.rinseTest
    · exact h

theorem ModesConfined.takeSample (h : ModesConfined s) (ch : Channel) (n : Nat) : ModesConfined (s.takeSample ch n) := by
  unfold State.takeSample
  split
  · have ht (r : ChannelRec) : ModesConfined (s.setChannel ch r) := h.congr rfl .of_eq
    exact ((ht _).channelNews ch s).endInputs
  · exact h

/-! ### Claims and frames (R69, R91, R101) -/

theorem ModesConfined.settled_of_claiming (h : ModesConfined s) (hu : ¬ s.unclaimed) : Settled s := by
  by_cases hq : s.rot.service = .queued
  · exact h.settled_of hq
  · exact h.settled_of (Decidable.of_not_not fun hc => hu ⟨hq, hc⟩)

theorem ModesConfined.holdEvent (h : ModesConfined s) (b : Bool) : ModesConfined (s.holdEvent b) := by
  by_cases hu : s.unclaimed
  · rwa [State.holdEvent_unclaimed hu]
  · exact ((h.settled_of_claiming hu).kept (s.holdEvent_modes b)).confined

theorem ModesConfined.rotationTick (h : ModesConfined s) : ModesConfined s.rotationTick := by
  unfold State.rotationTick
  split
  next => exact h.calm s.evaluate_calm s.evaluate_modes
  next hs => exact ((h.settled_of hs).kept s.testYield_modes).confined
  all_goals exact h

theorem ModesConfined.rotationFrame (h : ModesConfined s) (k : Option FrameKind) : ModesConfined (s.rotationFrame k) := by
  by_cases hu : s.unclaimed
  · rwa [State.rotationFrame_unclaimed hu]
  · exact ((h.settled_of_claiming hu).kept (s.rotationFrame_modes k)).confined

theorem ModesConfined.sentNotice (h : ModesConfined s) (f : Frame) : ModesConfined (s.sentNotice f) := by
  by_cases hq : s.rot.service = .queued
  · exact ((h.settled_of hq).kept (s.sentNotice_modes f)).confined
  · cases f with
    | status _ | yield _ | done _ _ => exact h
    | claim c =>
      simp only [State.sentNotice, State.claimSent, hq, false_and, if_false]
      split
      · refine ModesConfined.calm ?_ (State.offer_calm _ _)
        exact h.congr rfl (.of_eq rfl rfl rfl)
      · exact h

theorem ModesConfined.frameSent (h : ModesConfined s) (f : Frame) : ModesConfined (s.frameSent f) := by
  unfold State.frameSent
  refine (ModesConfined.calm ?_ (State.formDue_calm _ _) (State.formDue_modes _ _)).sentNotice f
  exact h.congr rfl (.of_eq rfl rfl rfl)

theorem ModesConfined.echo (h : ModesConfined s) (bits : LineBits) : ModesConfined (s.echo bits) := by
  unfold State.echo State.echoOf
  repeat' split
  · exact h.frameSent _
  · exact h.congr rfl (.of_eq rfl rfl rfl)
  · exact h.calm (s.attemptAbandoned_calm _) (s.attemptAbandoned_modes _)
  all_goals exact h

theorem ModesConfined.duplicateAddress (h : ModesConfined s) : ModesConfined s.duplicateAddress := by
  unfold State.duplicateAddress
  split
  · exact h
  dsimp only
  generalize hx : ({ s with link := _ } : State) = x
  have hx' : ModesConfined x := hx ▸ h.congr rfl (.of_eq rfl rfl rfl)
  have hu := hx'.foldl (fun (x : State) f => x.discardNotice f)
    (fun y f hy => hy.calm (y.discardNotice_calm f) (y.discardNotice_modes f)) s.link.queue
  split
  next hs => exact ((hu.settled_of hs).kept (State.yieldFor_modes _ _)).confined
  · exact hu

/-! ### The four parts together -/

theorem Confined.drops (h : Confined s) (d : Drops s t) (m : ModesConfined t) : Confined t := ⟨m, d.named h.named⟩

theorem Confined.quiet (h : Confined s) (q : Quiet s t) (m : ModesConfined t) : Confined t := h.drops q.drops m

theorem Confined.congr (h : Confined s) (hs : t.rot.service = s.rot.service) (hd : t.delivered = s.delivered)
    (k : ModesKept s t) : Confined t := by
  refine ⟨h.toModesConfined.congr hs k, ?_⟩
  unfold State.deliveredNamed
  rw [hs, hd]
  exact h.named

theorem Confined.calm (h : Confined s) (c : Calm s t) (k : ModesKept s t := by exact .of_eq) : Confined t :=
  h.congr c.service c.delivered k

/-- An operation that changes none of the records read by the invariant keeps it. -/
theorem Confined.of_eq (h : Confined s) (hrot : t.rot = s.rot := by simp) (hd : t.delivered = s.delivered := by simp)
    (hstage : t.startup.stage = s.startup.stage := by simp) (hseq : t.seq = s.seq := by simp)
    (hrip : t.rip = s.rip := by simp) : Confined t :=
  h.congr (congrArg _ hrot) hd ⟨hstage, congrArg _ hseq, congrArg _ hrip⟩

/-- Whatever waits after a change of service state names the new one (R34). -/
theorem State.changeState_named (s : State) (new : ServiceState) : (s.changeState new).deliveredNamed := by
  intro d hd
  rw [State.changeState_delivered] at hd
  rw [State.changeState_service]
  exact (List.mem_filter.1 hd).2

theorem Settled.changeState_confined (h : Settled s) (new : ServiceState) : Confined (s.changeState new) :=
  ⟨(h.changeState new).confined, s.changeState_named new⟩

/-! ### Line characters and frames (R71 to R73) -/

theorem Confined.holdEvent (h : Confined s) (b : Bool) : Confined (s.holdEvent b) :=
  h.quiet (s.holdEvent_quiet b) (h.toModesConfined.holdEvent b)

theorem Confined.rotationFrame (h : Confined s) (k : Option FrameKind) : Confined (s.rotationFrame k) :=
  h.quiet (s.rotationFrame_quiet k) (h.toModesConfined.rotationFrame k)

theorem Confined.takeFrame (h : Confined s) (bytes : List Byte) : Confined (s.takeFrame bytes) := by
  unfold State.takeFrame State.peerFrame
  dsimp only
  repeat' split
  · exact h.quiet s.duplicateAddress_quiet h.toModesConfined.duplicateAddress
  · refine Confined.rotationFrame (Confined.holdEvent ?_ _) _
    exact h.congr rfl rfl (.of_eq rfl rfl rfl)
  · exact h.rotationFrame none
  · exact h

theorem Confined.readLine (h : Confined s) (bits : LineBits) : Confined (s.readLine bits) := by
  unfold State.readLine State.lineChar
  dsimp only
  repeat' split
  · exact h
  · exact h.quiet (s.echo_quiet bits) (h.toModesConfined.echo bits)
  · exact h.of_eq
  · exact h.of_eq
  · exact Confined.takeFrame h.of_eq _
  · exact h.of_eq
  · exact h

theorem Confined.frameArrives (h : Confined s) (bytes : List Byte) : Confined (s.frameArrives bytes) := by
  unfold State.frameArrives
  split
  · exact Confined.takeFrame h.of_eq _
  · exact h

end Sys2Proof.Machine
end

section
/-! PROOF. The invariant of the service states through the port, the delivered triggers and each command, and so through
every step (R37, R112, R134, R34). -/

namespace Sys2Proof.Machine

variable {s t : State}

/-! ### Requests and the port (R47 to R52, R168 to R175) -/

theorem Confined.setPort (h : Confined s) (p : Port) : Confined (s.setPort p) := h.of_eq

theorem Confined.isolateTo (h : Confined s) (hs : s.rot.service ≠ .start) (hw : s.rot.service ≠ .washing)
    (new : ServiceState) : Confined (s.isolateTo new) :=
  h.quiet (s.isolateTo_quiet new) (h.toModesConfined.isolateTo hs hw new)

theorem Confined.ownWashNow (h : Confined s) : Confined s.ownWashNow.1 := by
  unfold State.ownWashNow
  split
  next hs =>
    refine Settled.changeState_confined ?_ _
    exact (h.settled_of hs).kept
  · exact h.congr rfl rfl (.of_eq rfl rfl rfl)
  · exact h.congr rfl rfl (.of_eq rfl rfl rfl)
  all_goals exact h

theorem Confined.ownTakeOut (h : Confined s) : Confined s.ownTakeOut.1 := by
  unfold State.ownTakeOut
  split
  iterate 4 next hs => exact h.isolateTo (by simp [hs]) (by simp [hs]) _
  next hs => exact (h.settled_of hs).changeState_confined _
  · exact h
  · exact h.congr rfl rfl (.of_eq rfl rfl rfl)
  · exact h

theorem Confined.returnToService (h : Confined s) (hs : Settled s) : Confined s.returnToService :=
  h.drops s.returnToService_drops hs.returnToService

theorem Confined.ownReturn (h : Confined s) : Confined s.ownReturn.1 := by
  unfold State.ownReturn
  split
  iterate 2
    next hs =>
      dsimp only [State.accept]
      exact h.returnToService (h.settled_of hs)
  all_goals exact h

theorem Confined.abortWash (h : Confined s) (hs : s.rot.service = .washing) : Confined s.abortWash := by
  unfold State.abortWash
  split
  iterate 2 exact h
  all_goals exact h.quiet (s.abortPath_quiet .operator) ((h.inWash hs).abortPath _)

theorem Confined.ownAbort (h : Confined s) : Confined s.ownAbort.1 := by
  unfold State.ownAbort
  split
  next hs => exact h.abortWash hs
  · exact h

theorem Confined.assertHold (h : Confined s) (on : Bool) : Confined (s.assertHold on) := by
  unfold State.assertHold
  split
  · exact h
  · refine Confined.holdEvent ?_ _
    exact h.congr rfl rfl (.of_eq rfl rfl rfl)

/-- No owner takes the station out of the invariant (R175). -/
theorem Confined.own (h : Confined s) (k : ReqKind) : Confined (s.own k).1 := by
  cases k with
  | readStation | readPeer _ | readConfig => exact h
  | washNow => exact h.ownWashNow
  | takeOut => exact h.ownTakeOut
  | returnFilter => exact h.ownReturn
  | abort => exact h.ownAbort
  | hold =>
    unfold State.own State.ownHold
    dsimp only
    split
    · exact h
    · exact h.assertHold true
  | resume =>
    unfold State.own State.ownResume
    dsimp only
    split
    · exact h
    · exact h.assertHold false
  | forget n =>
    unfold State.own State.ownForget
    dsimp only
    split
    · exact h.congr rfl rfl (.of_eq rfl rfl rfl)
    · exact h
  | restart =>
    unfold State.own State.ownRestart
    dsimp only
    split <;> exact h
  | writeConfig _ =>
    unfold State.own State.ownWriteConfig
    dsimp only
    repeat' split
    · exact h
    · exact h.congr rfl rfl ⟨rfl, rfl, rfl⟩
    · exact h
  | lockConfig =>
    unfold State.own State.ownLockConfig
    dsimp only
    split
    · exact h
    · exact h.congr rfl rfl ⟨rfl, rfl, rfl⟩

theorem Confined.handle (h : Confined s) (r : Request) : Confined (s.handle r) := by
  have ht : Confined ((s.setPort { s.port with processing := some r }).answerTo r.kind).1 := by
    unfold State.answerTo
    split
    · exact h.setPort _
    · exact (h.setPort _).own _
  exact ht.setPort _

theorem Confined.arrive (h : Confined s) (r : Request) : Confined (s.arrive r) := by
  unfold State.arrive State.owe
  repeat' split
  · exact h
  · exact h.setPort _
  · exact h
  · exact h.setPort _
  · exact h.handle r

theorem Confined.panelRequest (h : Confined s) (k : ReqKind) (tag : BitVec 4) : Confined (s.panelRequest k tag) := by
  unfold State.panelRequest
  split
  · exact h
  · exact (h.setPort _).arrive _

theorem Confined.serve (h : Confined s) : Confined s.serve := by
  unfold State.serve
  repeat' split
  · exact h.setPort _
  · exact (h.setPort _).handle _
  · exact h

theorem Confined.requestChar (h : Confined s) (c : LineChar) : Confined (s.requestChar c) := by
  unfold State.requestChar
  repeat' split
  · exact h
  · exact h.setPort _
  · exact h.setPort _
  · exact (h.setPort _).arrive _
  · exact h.setPort _
  · exact h.setPort _

/-! ### Start-up and the port's ends (R159, R168 to R170, R174) -/

theorem State.startUp_confined (s : State) : Confined s.startUp :=
  ⟨s.startUp_inStart.confined, fun _ hd => absurd hd List.not_mem_nil⟩

/-- LOAD leaves START and the triggers as they are (R161). -/
theorem Confined.loadAndServe (h : Confined s) (hs : InStart s) : Confined s.loadAndServe := by
  have hl : s.load.rot = s.rot ∧ s.load.delivered = s.delivered := by rw [State.load_frame]; exact ⟨rfl, rfl⟩
  have hn : s.load.deliveredNamed := by
    unfold State.deliveredNamed
    rw [hl.1, hl.2]
    exact h.named
  exact Confined.serve ⟨hs.load.confined, hn⟩

theorem State.startAfresh_confined (s : State) : Confined s.startAfresh := by
  unfold State.startAfresh
  split
  · exact s.startUp_confined
  · exact s.startUp_confined.loadAndServe s.startUp_inStart

theorem Confined.answerSent (h : Confined s) : Confined s.answerSent := by
  unfold State.answerSent
  repeat' split
  · exact s.startAfresh_confined
  · exact (h.setPort _).serve
  · exact h

theorem Confined.owedSent (h : Confined s) : Confined s.owedSent := by
  unfold State.owedSent
  split
  · exact (h.setPort _).serve
  · exact h

theorem Confined.answerAccepted (h : Confined s) : Confined s.answerAccepted := by
  unfold State.answerAccepted
  split
  · exact h.setPort _
  · exact h

theorem Confined.recordWritten (h : Confined s) : Confined s.recordWritten := by
  unfold State.recordWritten
  split
  · refine Confined.answerAccepted ?_
    exact h.congr rfl rfl ⟨rfl, rfl, rfl⟩
  · exact h

theorem Confined.lockWritten (h : Confined s) : Confined s.lockWritten := by
  unfold State.lockWritten
  split
  · refine Confined.answerAccepted ?_
    exact h.congr rfl rfl ⟨rfl, rfl, rfl⟩
  · exact h

/-! ### Triggers and claims (R30 to R34, R104) -/

/-- The trigger found is one that the service state is tested for, so it names that state (R34). -/
theorem State.triggerFound_names {k : Trigger} (h : s.triggerFound = some k) : k.names s.rot.service = true := by
  have hwaiting (hs : s.rot.service = .queued ∨ s.rot.service = .claiming) : k = .hardBreakthrough := by
    rw [State.triggerFound_waiting hs] at h
    split at h
    · exact (Option.some.inj h).symm
    · cases h
  cases hs : s.rot.service with
  | filtering => cases k <;> rfl
  | queued => rw [hwaiting (.inl hs)]; rfl
  | claiming => rw [hwaiting (.inr hs)]; rfl
  | start | washing | ripening | standby | isolated =>
    rw [State.triggerFound_out (by rw [hs]; rfl)] at h
    cases h

theorem Confined.conditionSteps (h : Confined s) : Confined s.conditionSteps := by
  have hsame := s.conditionSteps_same
  have hm : ModesConfined s.conditionSteps := by
    rw [hsame]
    exact h.toModesConfined.congr rfl ⟨rfl, rfl, rfl⟩
  refine ⟨hm, ?_⟩
  intro d hd
  rw [hsame.rot]
  cases hk : s.conditionComputed.triggerFound with
  | none =>
    rw [(State.conditionSteps_findsNone hk).1] at hd
    exact h.named d hd
  | some k =>
    have hnames := State.triggerFound_names hk
    rw [s.conditionComputed_same.rot] at hnames
    rw [(State.conditionSteps_finds hk).1] at hd
    split at hd
    · exact h.named d hd
    · rcases List.mem_append.1 hd with hd | hd
      · exact h.named d hd
      · rwa [List.mem_singleton.1 hd]

theorem Confined.undeliver (h : Confined s) (k : Trigger) : Confined (s.undeliver k) :=
  ⟨h.toModesConfined.congr rfl (.of_eq rfl rfl rfl), fun d hd => h.named d (List.mem_of_mem_eraseP hd)⟩

theorem State.breakThrough_modes (s : State) : ModesKept s s.breakThrough := by
  unfold State.breakThrough
  dsimp only
  repeat' split
  · exact .refl s
  · exact ModesKept.trans .of_eq (State.changeState_modes _ _)
  · exact .of_eq

theorem Confined.breakThrough (h : Confined s) (hd : s.rot.service.delivering = true) : Confined s.breakThrough := by
  have hne {x : ServiceState} (hx : x.delivering = false) : s.rot.service ≠ x := fun he => by simp [he, hx] at hd
  have hs : Settled s := h.settled (h.running (hne rfl)) (hne rfl) (hne rfl)
  exact h.quiet s.breakThrough_quiet (hs.kept s.breakThrough_modes).confined

/-- A settled station that enters WASHING may start the sequencer (R104). -/
theorem Settled.enterWashing (h : Settled s) : InWash s.enterWashing := by
  have hk : ModesKept s s.enterWashing := by
    refine ModesKept.trans ?_ (State.enterState_modes _ _)
    exact .of_eq rfl rfl rfl
  exact ⟨(h.kept hk).running, State.enterState_service _ _, (h.kept hk).unripened⟩

/-- A claim that settles begins the wash or yields (R104, R114). -/
theorem Confined.settle (h : Confined s) (hs : s.rot.service = .claiming) : Confined s.settle := by
  refine h.drops s.settle_drops ?_
  have ht : Settled { s with rot := { s.rot with predictedRate := s.predicted s.settleK } } :=
    (h.settled_of hs).kept (.of_eq rfl rfl rfl)
  unfold State.settle State.beginWashing
  dsimp only
  split
  · exact ht.enterWashing.startWash.calm (State.requestStatus_calm _)
  · exact (ht.kept (State.yieldFor_modes _ _)).confined

/-- A ripening second with the ripening in RUNNING (R134, R137). -/
theorem Confined.ripeningSteps (h : Confined s) (hr : s.rip.step = .running) : Confined s.ripeningSteps := by
  have hs := h.ripening (by rw [hr]; exact RipeningStep.noConfusion)
  exact h.quiet s.ripeningSteps_quiet (h.inRipening hs).ripeningSteps

/-! ### Every command, every step -/

theorem Confined.ite {p : Prop} [Decidable p] (ht : p → Confined t) (h : Confined s) :
    Confined (if p then t else s) := by
  split
  next hp => exact ht hp
  · exact h

/-- Every command answers with a state that keeps the invariant. -/
theorem Confined.exec (h : Confined s) (c : Instr) : ∃ t, exec c s = .next t ∧ Confined t := by
  have hm := h.toModesConfined
  cases c with
  | powerOn => exact ⟨_, rfl, s.startAfresh_confined⟩
  | resetLineAsserted => exact ⟨_, rfl, State.startUp_confined _⟩
  | resetLineReleased =>
    have ht : Confined { s with pins := { s.pins with resetLine := false } } :=
      h.congr rfl rfl (.of_eq rfl rfl rfl)
    exact ⟨_, rfl, .ite (fun hs => ht.loadAndServe (ht.inStart hs)) ht⟩
  | sample ch code =>
    refine ⟨_, rfl, ?_, (s.takeSample_drops ch code.toNat).named ?_⟩
    · exact hm.takeSample ch _
    · split <;> exact h.named
  | settlingExpiry =>
    refine ⟨_, rfl, ?_⟩
    split
    · refine Confined.calm ?_ (State.followDecision_calm _) (State.followDecision_modes _)
      exact h.congr rfl rfl (.of_eq rfl rfl rfl)
    · exact h
  | conditionSecond | closedWindowEnd => exact ⟨_, rfl, .ite (fun _ => h.conditionSteps) h⟩
  | queueTrigger =>
    have ht := h.undeliver .queueTrigger
    exact ⟨_, rfl, .ite (fun hs => (ht.settled_of (x := .filtering) hs).changeState_confined _) ht⟩
  | hardBreakthrough =>
    have ht := h.undeliver .hardBreakthrough
    exact ⟨_, rfl, .ite (fun hd => ht.breakThrough hd) ht⟩
  | shortRun =>
    have ht := h.undeliver .shortRun
    have hrot : (s.undeliver .shortRun).rot = s.rot := rfl
    exact ⟨_, rfl, .ite (fun hs => ht.isolateTo (by simp [hrot, hs]) (by simp [hrot, hs]) _) ht⟩
  | washNow tag | takeOut tag | returnFilter tag | abort tag | hold tag | resume tag | forget tag _ | restart tag
  | lockConfig tag | readStation tag | readPeer tag _ | readConfig tag => exact ⟨_, rfl, h.panelRequest _ tag⟩
  | writeConfig tag record =>
    exact ⟨_, rfl, .ite (fun _ => h.panelRequest _ tag) (.ite (fun _ => h) (h.setPort _))⟩
  | recordWriteEnd => exact ⟨_, rfl, h.recordWritten⟩
  | lockWriteEnd => exact ⟨_, rfl, h.lockWritten⟩
  | answerSent => exact ⟨_, rfl, h.answerSent⟩
  | owedRefusalSent => exact ⟨_, rfl, h.owedSent⟩
  | portQuietTimeout => exact ⟨_, rfl, h.setPort _⟩
  | requestCharacter bits =>
    refine ⟨_, rfl, ?_⟩
    split
    · exact h.requestChar _
    · exact h
  | statusTick =>
    have ht : Confined ({ s with link := { s.link with statusTick := some 0 } } : State).requestStatus := h.of_eq
    exact ⟨_, rfl, .ite (fun _ => ht.quiet (State.rotationTick_quiet _) ht.toModesConfined.rotationTick) h⟩
  | accessWaitEnd => exact ⟨_, rfl, h.of_eq⟩
  | frameSent =>
    refine ⟨_, rfl, ?_⟩
    repeat' split
    · exact h.quiet (s.frameSent_quiet _) (hm.frameSent _)
    all_goals exact h
  | attemptAbandoned =>
    refine ⟨_, rfl, ?_⟩
    repeat' split
    · exact h.calm (s.attemptAbandoned_calm _) (s.attemptAbandoned_modes _)
    all_goals exact h
  | frameReceived frame => exact ⟨_, rfl, h.frameArrives frame⟩
  | assemblyQuietTimeout => exact ⟨_, rfl, .ite (fun _ => h.of_eq) h⟩
  | receivedCharacter bits => exact ⟨_, rfl, h.readLine bits⟩
  | peerAging station =>
    refine ⟨_, rfl, ?_⟩
    repeat' split
    · refine Confined.holdEvent ?_ _
      exact h.of_eq
    all_goals exact h
  | occupancyLapse station =>
    refine ⟨_, rfl, ?_⟩
    repeat' split
    · refine Confined.calm ?_ (State.rotationLapse_calm _) (State.rotationLapse_modes _)
      exact h.congr rfl rfl (.of_eq rfl rfl rfl)
    all_goals exact h
  | settleExpiry => exact ⟨_, rfl, .ite (fun hs => h.settle hs.1) h⟩
  | sequenceSecond => exact ⟨_, rfl, h.quiet s.sequenceSteps_quiet hm.sequenceSteps⟩
  | lowerTimeout | airOnTimeReached | airMaxTime | airWaterEnd | rinseComplete | suspensionLimit | refillTimeout =>
    exact ⟨_, rfl, .ite (fun _ => h.quiet s.sequenceSteps_quiet hm.sequenceSteps) h⟩
  | ripeningSecond => exact ⟨_, rfl, .ite h.ripeningSteps h⟩
  | ripeningSuccess | ripeningExpiry => exact ⟨_, rfl, .ite (fun hs => h.ripeningSteps hs.1) h⟩
  | driveSecond => exact ⟨_, rfl, .ite (fun _ => h.drops s.driveSteps_drops hm.driveSteps) h⟩
  | reversalPauseEnd v => exact ⟨_, rfl, .ite (fun _ => h.quiet (s.endPause_quiet v) (hm.endPause v)) h⟩
  | targetSwitchMade v => exact ⟨_, rfl, h.quiet (s.targetSwitch_quiet v) (hm.targetSwitch v)⟩
  | travelTimeout v =>
    have ht := h.calm (s.setValve_calm v (s.valve v).second)
    exact ⟨_, rfl, .ite (fun _ => ht.quiet (State.valveFaults_quiet _ _ _) (ht.toModesConfined.valveFaults v _)) h⟩
  | drift v => exact ⟨_, rfl, h.quiet (s.loseRest_quiet v) (hm.loseRest v)⟩
  | feedbackFault v | limitSwitchChange v _ _ =>
    have ht (w : Switches) := h.calm (s.setSwitches_calm v w)
    exact ⟨_, rfl, (ht _).quiet (State.switchChanged_quiet _ v) ((ht _).toModesConfined.switchChanged v)⟩
  | pulseOnEnd | pulseOffEnd => exact ⟨_, rfl, .ite (fun _ => h.calm s.pulseSecond_calm s.pulseSecond_modes) h⟩
  | pressureSwitchChange made =>
    exact ⟨_, rfl, hm.pressureChanged made, (s.pressureChanged_quiet made).named h.named⟩
  | blowerFeedbackTimeout =>
    exact ⟨_, rfl, .ite (fun _ => h.quiet s.feedbackSecond_quiet hm.feedbackSecond) h⟩
  | listenEnd =>
    have ht : Confined { s with startup := { s.startup with listenElapsed := 3 * s.cfg.s } } :=
      h.congr rfl rfl ⟨rfl, rfl, rfl⟩
    exact ⟨_, rfl, .ite (fun hs => ht.quiet (State.release_quiet _) (ht.inStart hs.1).release) h⟩

/-- So does a second of station time (entry 1). -/
theorem Confined.secondPasses (h : Confined s) : Confined s.secondPasses := by
  unfold State.secondPasses
  repeat' split
  · exact h.congr rfl rfl (.of_eq rfl rfl rfl)
  next hs _ => exact h.loadAndServe (h.inStart hs)
  · exact h.congr rfl rfl ⟨rfl, rfl, rfl⟩

/-- Settles O60: a step is a command, the taking of a delivered trigger or a second, and each keeps the invariant. -/
theorem ripeningStepConfined : Obligations.RipeningStepConfined := by
  intro s t ⟨hstart, hwash, hripening, hnamed⟩ hstep
  have h : Confined s := ⟨⟨hstart, hwash, hripening⟩, hnamed⟩
  have hkept : ∃ u, step s = .next u ∧ Confined u := by
    unfold step
    repeat' split
    · refine Confined.exec ?_ _
      exact h.congr rfl rfl (.of_eq rfl rfl rfl)
    · exact h.exec _
    · exact ⟨_, rfl, h.secondPasses⟩
  obtain ⟨u, hu, hconf⟩ := hkept
  obtain rfl : u = t := Host.Outcome.next.inj (hu.symm.trans hstep)
  exact hconf.parts

end Sys2Proof.Machine
end

section
/-! PROOF. A ripening second (R137, R138): what it counts, and the three ways in which it goes on: it counts on, it succeeds
(R140) or it fails (R141, R46). -/

namespace Sys2Proof.Machine

variable {s : State}

/-! ### The hold timer and the counts (R137, R138) -/

theorem State.holdAtSecond_ripened (hr : s.rip.step = .running) (hb : s.rip.basis = some .verified)
    (hs : s.meas.settling = none) (ht : s.turbidityRipened = true) : s.holdAtSecond = min 1800 (s.rip.hold + 1) := by
  simp [State.holdAtSecond, State.holdRuns, hr, hb, hs, ht]

theorem State.holdAtSecond_unripe (hr : s.rip.step = .running) (hb : s.rip.basis = some .verified)
    (hs : s.meas.settling = none) (ht : s.turbidityRipened = false) : s.holdAtSecond = 0 := by
  simp [State.holdAtSecond, State.holdRuns, hr, hb, hs, ht]

/-- On the basis ON-TIME and while settling runs the hold timer stands (R138). -/
theorem State.holdAtSecond_stands (h : s.rip.basis ≠ some .verified ∨ s.meas.settling ≠ none) :
    s.holdAtSecond = s.rip.hold := by
  have hn : s.holdRuns = false := by
    rcases h with h | h
    · simp [State.holdRuns, h]
    · cases hs : s.meas.settling with
      | none => exact absurd hs h
      | some k => simp [State.holdRuns, hs]
  simp [State.holdAtSecond, hn]

theorem State.holdAtSecond_le (s : State) : s.holdAtSecond ≤ s.rip.hold + 1 := by
  unfold State.holdAtSecond
  repeat' split
  all_goals omega

/-- The hold timer has reached its limit after the counts of a second (R137). -/
theorem State.ripeningCount_ripened (s : State) :
    s.ripeningCount.ripenedNow = true ↔ s.rip.basis = some .verified ∧ s.cfg.tRhold ≤ s.holdAtSecond := by
  have h : s.ripeningCount.ripenedNow = (s.rip.basis == some .verified && decide (s.cfg.tRhold ≤ s.holdAtSecond)) := rfl
  simp [h]

/-- Ripening elapsed has reached its limit after the counts of a second (R137). -/
theorem State.ripeningCount_expired (s : State) :
    s.ripeningCount.ripeningExpired = true ↔ s.cfg.tRmax ≤ s.rip.elapsed + 1 := by
  have h : s.ripeningCount.ripeningExpired = decide (s.cfg.tRmax ≤ s.rip.elapsed + 1) := rfl
  simp [h]

/-! ### The three outcomes of a second (R137) -/

theorem exec_ripeningSecond (hr : s.rip.step = .running) : exec .ripeningSecond s = .next s.ripeningSteps := by
  simp [exec, execRipeningSecond, hr]

/-- With neither limit reached the second counts and no more. -/
theorem exec_ripeningSecond_counts {n : Nat} (hr : s.rip.step = .running) (hn : s.holdAtSecond = n)
    (hh : s.rip.basis = some .verified → n < s.cfg.tRhold) (he : s.rip.elapsed + 1 < s.cfg.tRmax) :
    exec .ripeningSecond s = .next { s with rip := { s.rip with elapsed := s.rip.elapsed + 1, hold := n } } := by
  have h1 : ¬ s.ripeningCount.ripenedNow = true := by
    rw [State.ripeningCount_ripened, hn]
    rintro ⟨hb, hle⟩
    exact absurd (hh hb) (by omega)
  have h2 : ¬ s.ripeningCount.ripeningExpired = true := by
    rw [State.ripeningCount_expired]
    omega
  have hsteps : s.ripeningSteps = s.ripeningCount := by
    unfold State.ripeningSteps
    dsimp only
    rw [if_neg h1, if_neg h2]
  subst hn
  rw [exec_ripeningSecond hr, hsteps]
  rfl

/-- RIPENING_SUCCESS is the second that reaches the hold limit (R137, entry 3). -/
theorem exec_ripeningSuccess (hr : s.rip.step = .running) (h : s.ripeningCount.ripenedNow = true) :
    exec .ripeningSuccess s = .next s.ripeningCount.ripeningSuccess
      ∧ exec .ripeningSecond s = .next s.ripeningCount.ripeningSuccess := by
  simp [exec, execRipeningSuccess, execRipeningSecond, State.ripeningSteps, hr, h]

/-- RIPENING_EXPIRY is the second that reaches the maximum without success: a failure on the basis VERIFIED, a success on
ON-TIME (R137, R141, entry 3). -/
theorem exec_ripeningExpiry (hr : s.rip.step = .running) (hn : ¬ s.ripeningCount.ripenedNow = true)
    (he : s.ripeningCount.ripeningExpired = true) :
    exec .ripeningExpiry s = exec .ripeningSecond s
      ∧ exec .ripeningSecond s = .next
        (if s.rip.basis = some .verified then s.ripeningCount.ripeningFailed else s.ripeningCount.ripeningSuccess) := by
  have hb : s.ripeningCount.rip.basis = s.rip.basis := rfl
  simp [exec, execRipeningExpiry, execRipeningSecond, State.ripeningSteps, hr, hn, he, hb]

/-- What a ripening second answers is quiet (R137). -/
theorem exec_ripeningSecond_quiet {t : State} (h : exec .ripeningSecond s = .next t) : Quiet s t := by
  obtain rfl := Host.Outcome.next.inj h
  split
  · exact s.ripeningSteps_quiet
  · exact .refl s

/-! ### Success: the close of FTW begins (R140) -/

/-- With FTW open the success waits for its close: the state after step 1 of R140. -/
theorem State.ripeningSuccess_waits (h : (s.valve .ftw).pos = .opened) :
    s.ripeningSuccess = (s.setRip { s.rip with
      step := .ending, unverified := s.rip.basis != some .verified }).requestMove .sequencer .closedEnd .ftw := by
  have hw (r : Ripening) : ((s.setRip r).requestMove .sequencer .closedEnd .ftw).waits .sequencer [.ftw] = true := by
    have hp : ((s.setRip r).valve .ftw).pos = .opened := h
    simp [State.waits, ValveRec.request, hp, ValveRec.join, ValveRec.begin]
  unfold State.ripeningSuccess State.ripeningEnding
  simp [hw]

/-- A success with FTW open: ENDING with the flag fixed, FTW closing, every other valve and block as it was (R140). -/
theorem State.ripeningSuccess_closing (h : (s.valve .ftw).pos = .opened) :
    s.ripeningSuccess.rip = { s.rip with step := .ending, unverified := s.rip.basis != some .verified }
      ∧ (s.ripeningSuccess.valve .ftw).pos = .closing ∧ (s.ripeningSuccess.valve .ftw).commanded = some .closedEnd
      ∧ (∀ v, v ≠ .ftw → s.ripeningSuccess.valve v = s.valve v)
      ∧ s.ripeningSuccess.rot = s.rot ∧ s.ripeningSuccess.cond = s.cond ∧ s.ripeningSuccess.link = s.link
      ∧ s.ripeningSuccess.seq = s.seq := by
  rw [State.ripeningSuccess_waits h]
  refine ⟨by simp, ?_, by simp, fun v hv => ?_, by simp, by simp, by simp, by simp⟩
  · rw [State.requestMove_valve, if_pos rfl]
    exact (ValveRec.request_close_opened _ h).1
  · rw [State.requestMove_valve, if_neg hv]
    rfl

/-! ### Failure: the isolation of a ripening (R141, R142, R46) -/

/-- A new decision value resets the hold timer in RUNNING alone (R138). -/
theorem State.followDecision_rip (h : s.rip.step ≠ .running) : s.followDecision.rip = s.rip := by
  have hr (d : Option Nat) : State.holdRuns { s with meas := { s.meas with decision := d } } = false := by
    simp [State.holdRuns, h]
  unfold State.followDecision State.setDecision
  split
  · simp [hr]
  · rfl

theorem State.changeState_rip (h : s.rip.step ≠ .running) (new : ServiceState) : (s.changeState new).rip = s.rip := by
  unfold State.changeState State.enterState
  rw [State.requestStatus_rip, State.urgencyOnEntry_rip, State.followDecision_rip (by exact h)]
  rfl

/-- The state with a failed ripening given up, before anything is requested (R141, R142, R46). -/
def State.ripeningGivenUp (s : State) : State :=
  { s with rip := s.rip.idled, rot := { s.rot with deferredWashNow := false, ripenFail := true } }

/-- In RIPENING an isolation has no claim to close off (R43). -/
theorem State.ripeningFailed_eq (hs : s.rot.service = .ripening) :
    s.ripeningFailed = s.ripeningGivenUp.isolationRequest.changeState .isolated := by
  simp [State.ripeningFailed, State.ripeningGivenUp, State.isolateTo, State.closeOff, State.abandonRipening, hs]

/-- The valves after a failed ripening: INF and EFF requested closed, and FTW where it is commanded open (R42). -/
theorem State.ripeningFailed_valves (hs : s.rot.service = .ripening) :
    (s.ripeningFailed.valve .inf).commanded = some .closedEnd
      ∧ (s.ripeningFailed.valve .eff).commanded = some .closedEnd
      ∧ ((s.valve .ftw).commanded = some .openEnd → (s.ripeningFailed.valve .ftw).commanded = some .closedEnd) := by
  have hv (v : Valve) := s.ripeningGivenUp.isolationRequest_valve v
  have hftw : (s.ripeningGivenUp.valve .ftw).commanded = (s.valve .ftw).commanded := rfl
  simp only [State.ripeningFailed_eq hs, State.changeState_valve, hv, hftw]
  exact ⟨by simp, by simp, fun ho => by simp [ho]⟩

/-- A failed ripening: ISOLATED with ripen-fail set, the record at IDLE with its flag kept, the components and urgency
at 0, and the STATUS asked for (R141, R142, R46, R27, R54). -/
theorem State.ripeningFailed_isolates (hs : s.rot.service = .ripening) :
    s.ripeningFailed.rip = s.rip.idled
      ∧ s.ripeningFailed.rot.service = .isolated ∧ s.ripeningFailed.rot.ripenFail = true
      ∧ s.ripeningFailed.rot.deferredWashNow = false
      ∧ s.ripeningFailed.cond = { s.cond with cH := 0, cT := 0, cU := 0, urgency := 0 }
      ∧ s.ripeningFailed.seq = s.seq ∧ StatusAsked s s.ripeningFailed := by
  obtain ⟨hrot, hcond, hseq, hlink⟩ := s.ripeningGivenUp.isolationRequest_kept
  have hrip : s.ripeningGivenUp.isolationRequest.rip = s.rip.idled := State.requestMoves_rip ..
  rw [State.ripeningFailed_eq hs]
  refine ⟨?_, State.changeState_service _ _, ?_, ?_, ?_, ?_, (State.changeState_asked _ _).of_link hlink⟩
  · rw [State.changeState_rip (by rw [hrip]; exact RipeningStep.noConfusion), hrip]
  · rw [State.changeState_rot, hrot]
    rfl
  · rw [State.changeState_rot, hrot]
    rfl
  · rw [State.changeState_cond_out rfl, hcond]
    rfl
  · rw [State.changeState_seq, hseq]
    rfl

/-! ### The obligation -/

/-- On the basis VERIFIED the hold timer stays below its limit: it has more than a second to go, it stands, or it goes
back to 0 (R138). -/
theorem State.not_ripenedNow (hr : s.rip.step = .running) (hb : s.rip.basis = some .verified)
    (h : s.rip.hold + 1 < s.cfg.tRhold ∨ (s.meas.settling ≠ none ∧ s.rip.hold < s.cfg.tRhold)
      ∨ (s.meas.settling = none ∧ s.turbidityRipened = false ∧ 0 < s.cfg.tRhold)) :
    ¬ s.ripeningCount.ripenedNow = true := by
  rw [State.ripeningCount_ripened]
  rintro ⟨-, hle⟩
  rcases h with h | ⟨hs, h⟩ | ⟨hs, ht, h⟩
  · have := s.holdAtSecond_le
    omega
  · rw [State.holdAtSecond_stands (.inr hs)] at hle
    omega
  · rw [State.holdAtSecond_unripe hr hb hs ht] at hle
    omega

/-- Settles O47: the counts by the hold timer's three cases, the ends by the outcome of the second that reaches a
limit. -/
theorem ripeningCountsAndEnds : Obligations.RipeningCountsAndEnds := by
  refine ⟨fun s => ⟨fun hr => by simp [exec, execRipeningSecond, hr], fun hr he => ⟨fun hb hs ht hh hmax => ?_,
    fun hb hs ht hh => ?_, fun h => ?_⟩⟩, fun s hserv hr => ⟨fun hb hs ht hh hmax ho => ?_, fun hb he ho => ?_,
    fun hb he hh => ?_⟩⟩
  · have hn := State.holdAtSecond_ripened hr hb hs ht
    rw [Nat.min_eq_right (by omega)] at hn
    exact exec_ripeningSecond_counts hr hn (fun _ => hh) he
  · exact exec_ripeningSecond_counts hr (State.holdAtSecond_unripe hr hb hs ht) (fun _ => hh) he
  · refine exec_ripeningSecond_counts hr (State.holdAtSecond_stands (h.imp_right And.left)) (fun hb => ?_) he
    rcases h with h | h
    · exact absurd hb h
    · exact h.2
  · have hnow : s.ripeningCount.ripenedNow = true := by
      rw [State.ripeningCount_ripened, State.holdAtSecond_ripened hr hb hs ht]
      exact ⟨hb, by omega⟩
    obtain ⟨hsuccess, hsecond⟩ := exec_ripeningSuccess hr hnow
    obtain ⟨hrip, hpos, hcmd, hothers, hrot, hcond, hlink, hseq⟩ := State.ripeningSuccess_closing (s := s.ripeningCount) ho
    have hb' : s.ripeningCount.rip.basis = some .verified := hb
    exact ⟨_, hsuccess, hsecond, exec_ripeningSecond_quiet hsecond, by rw [hrip], by rw [hrip, hb']; rfl, by rw [hrip]; rfl,
      hpos, hcmd, hothers, hrot, hcond, hlink, hseq⟩
  · have hnot : ¬ s.ripeningCount.ripenedNow = true := by simp [State.ripeningCount_ripened, hb]
    obtain ⟨hexpiry, hsecond⟩ := exec_ripeningExpiry hr hnot (s.ripeningCount_expired.2 he)
    rw [if_neg (by simp [hb])] at hsecond
    obtain ⟨hrip, hpos, -, hothers, hrot, hcond, hlink, hseq⟩ := State.ripeningSuccess_closing (s := s.ripeningCount) ho
    have hb' : s.ripeningCount.rip.basis = some .onTime := hb
    exact ⟨_, hexpiry.trans hsecond, hsecond, exec_ripeningSecond_quiet hsecond, by rw [hrip], by rw [hrip, hb']; rfl, hpos,
      hothers, hrot, hcond, hlink, hseq⟩
  · obtain ⟨hexpiry, hsecond⟩ :=
      exec_ripeningExpiry hr (State.not_ripenedNow hr hb hh) (s.ripeningCount_expired.2 he)
    rw [if_pos hb] at hsecond
    obtain ⟨hrip, hisolated, hfail, hdeferred, hcond, hseq, hasked⟩ :=
      State.ripeningFailed_isolates (s := s.ripeningCount) hserv
    obtain ⟨hinf, heff, hftw⟩ := State.ripeningFailed_valves (s := s.ripeningCount) hserv
    exact ⟨_, hexpiry.trans hsecond, hsecond, exec_ripeningSecond_quiet hsecond, by rw [hrip]; rfl, by rw [hrip]; rfl,
      by rw [hrip]; rfl, by rw [hrip]; rfl, by rw [hrip]; rfl, hisolated, hfail, hdeferred, hinf, heff, hftw,
      by rw [hcond]; rfl, by rw [hcond]; rfl, by rw [hcond]; rfl, hseq, hasked⟩

end Sys2Proof.Machine
end

section
/-! PROOF. The last step of a ripening (R140, R46): the close of FTW as a completed move (R147), the success actions
behind it, and a new run with its components and urgency (R21, R22, R24 to R29). -/

namespace Sys2Proof.Machine

variable {s : State} {v : Valve}

/-! ### The target switch of a driven valve (R147) -/

theorem PosState.movingTo_moving (e : ValveEnd) : (ValveEnd.moving e).movingTo = some e := by cases e <;> rfl

/-- In RUNNING the target switch of a driven valve completes its move (R147). -/
theorem exec_targetSwitchMade {e : ValveEnd} (hr : s.startup.stage = .running) (hp : (s.valve v).pos = ValveEnd.moving e)
    (hd : (s.valve v).drive = .energized) :
    exec (.targetSwitchMade v) s = .next ((s.setSwitches v (endSwitches e)).moveCompleted v) := by
  have hend : (s.valve v).targetEnd = some e := by simp [ValveRec.targetEnd, hp, PosState.movingTo_moving]
  have hfault : (ValveEnd.moving e == PosState.fault) = false := by cases e <;> rfl
  have hboth : ((endSwitches e).closedMade && (endSwitches e).openMade) = false := by cases e <;> rfl
  have hat : (endSwitches e).at e = true := by cases e <;> rfl
  have hmade : (s.setSwitches v (endSwitches e)).targetMade v = true := by
    simp [State.targetMade, hp, hd, PosState.movingTo_moving, hat]
  have hchanged : (s.setSwitches v (endSwitches e)).switchChanged v
      = (s.setSwitches v (endSwitches e)).switchWhileDriving v := by
    simp only [State.switchChanged, State.surveyed, State.released, State.setSwitches_startup, hr,
      State.valve_setSwitches, hp, hfault, State.switches_setSwitches, if_true, hboth]
    rfl
  simp only [exec, execTargetSwitchMade, State.targetSwitch, hend, hchanged, State.switchWhileDriving, hmade, if_true]

/-- A completed close changes the valve's record alone, before the blocks that wait go on (R147). -/
theorem State.completeMove_closed (hp : (s.valve v).pos = .closing) :
    s.completeMove v = s.setValve v ((s.valve v).complete .closedEnd (s.cfg.travel v)) := by
  simp [State.completeMove, hp, PosState.movingTo]

/-! ### A run begins (R21, R22, R24 to R29) -/

/-- With neither EFF nor FTW open the decision value stays (R11). -/
theorem State.followDecision_shut (he : (s.valve .eff).pos ≠ .opened) (hf : (s.valve .ftw).pos ≠ .opened) :
    s.followDecision = s := by
  have he' : s.drive.eff.pos ≠ .opened := he
  have hf' : s.drive.ftw.pos ≠ .opened := hf
  simp [State.followDecision, State.decisionFollows, he', hf']

/-- A change from outside the run into it computes the components and urgency from the values that stand (R24 to R28). -/
theorem State.changeState_entersRun {new : ServiceState} (ho : s.rot.service.outOfRun = true)
    (hn : new.delivering = true) (he : (s.valve .eff).pos ≠ .opened) (hf : (s.valve .ftw).pos ≠ .opened) :
    (s.changeState new).meas = s.meas
      ∧ (s.changeState new).cond = { s.cond with
          cH := headLossComponent s.meas.ch0.filtered s.cond.baseline s.cfg.hT
          cT := runTimeComponent s.cond.runTime s.cfg.tMax
          cU := turbidityComponent s.meas.decision s.cfg.uT
          urgency := (s.changeState new).cond.urgency }
      ∧ (s.changeState new).cond.urgency = (if (s.changeState new).rot.held || (s.changeState new).rot.manual then 1000
          else max (s.changeState new).cond.cH (max (s.changeState new).cond.cT (s.changeState new).cond.cU)) := by
  have hnew := ServiceState.outOfRun_of_delivering hn
  unfold State.changeState State.enterState
  rw [State.followDecision_shut (by exact he) (by exact hf)]
  simp [State.urgencyOnEntry, State.refreshOversub, State.updateUrgency, State.urgencyValue, State.computeComponents,
    ho, hnew, hn]
  exact ⟨rfl, rfl, rfl⟩

/-- The components as R24 to R26 write them out. -/
theorem State.urgencyStands_of_components
    (hH : s.cond.cH = headLossComponent s.meas.ch0.filtered s.cond.baseline s.cfg.hT)
    (hT : s.cond.cT = runTimeComponent s.cond.runTime s.cfg.tMax)
    (hU : s.cond.cU = turbidityComponent s.meas.decision s.cfg.uT)
    (hurgency : s.cond.urgency = (if s.rot.held || s.rot.manual then 1000
      else max s.cond.cH (max s.cond.cT s.cond.cU))) : s.urgencyStands := by
  refine ⟨hH.trans ?_, hT, hU.trans ?_, hurgency⟩
  · cases s.meas.ch0.filtered <;> rfl
  · cases s.meas.decision <;> rfl

/-! ### The success actions (R140, R46) -/

/-- The service state that a ripened filter takes (R46). -/
def State.ripenedInto (s : State) : ServiceState := if s.rot.deferredWashNow then .queued else .filtering

theorem State.ripenedInto_delivering (s : State) : s.ripenedInto.delivering = true := by
  unfold State.ripenedInto
  split <;> rfl

/-- The state just before a ripened filter changes its service state: EFF requested open, a new run, the record at IDLE, a
deferred WASH-NOW turned into manual (R140, R46). -/
def State.ripened (s : State) : State :=
  let t := (s.requestMove .sequencer .openEnd .eff).beginRun
  { t with
    rip := s.rip.idled
    rot := { s.rot with deferredWashNow := false, manual := s.rot.manual || s.rot.deferredWashNow } }

theorem State.ripeningSucceeded_eq (s : State) : s.ripeningSucceeded = s.ripened.changeState s.ripenedInto := by
  cases hd : s.rot.deferredWashNow with
  | true =>
    simp [State.ripeningSucceeded, State.takeRipened, State.ripened, State.ripenedInto, hd]
  | false =>
    have hrot : ({ s.rot with deferredWashNow := false } : Rotation) = s.rot := by rw [← hd]
    simp [State.ripeningSucceeded, State.takeRipened, State.ripened, State.ripenedInto, hd, hrot]
    rfl

/-- The state with FTW's close completed, before the ripening goes on (R147). -/
def State.ftwClosed (s : State) : State :=
  (s.setSwitches .ftw (endSwitches .closedEnd)).setValve .ftw ((s.valve .ftw).complete .closedEnd (s.cfg.travel .ftw))

theorem State.ftwClosed_valve (s : State) (w : Valve) :
    s.ftwClosed.valve w = if w = .ftw then (s.valve .ftw).complete .closedEnd (s.cfg.travel .ftw) else s.valve w := by
  rw [State.ftwClosed, State.valve_setValve, State.valve_setSwitches]

/-- In ENDING the completed close of FTW takes the success actions (R140, R147). -/
theorem exec_targetSwitchMade_ripened (hr : s.startup.stage = .running) (hs : s.rot.service = .ripening)
    (he : s.rip.step = .ending) (hp : (s.valve .ftw).pos = .closing) (hd : (s.valve .ftw).drive = .energized) :
    exec (.targetSwitchMade .ftw) s = .next s.ftwClosed.ripeningSucceeded := by
  have hcomplete : (s.setSwitches .ftw (endSwitches .closedEnd)).completeMove .ftw = s.ftwClosed :=
    State.completeMove_closed hp
  have hrec := s.ftwClosed_valve .ftw
  rw [if_pos rfl] at hrec
  have hserv : s.ftwClosed.rot.service = .ripening := hs
  have hstep : s.ftwClosed.rip.step = .ending := he
  have hclosed : s.ftwClosed.drive.ftw.pos = .closed := congrArg ValveRec.pos hrec
  have hwaits : s.ftwClosed.waits .sequencer [.ftw] = false := by simp [State.waits, hrec, ValveRec.complete]
  rw [exec_targetSwitchMade (e := .closedEnd) hr hp hd, State.moveCompleted, hcomplete]
  simp [State.progress, hserv, State.ripeningProgress, hstep, State.ripeningEnding, hwaits, hclosed]

theorem ValveRec.request_open_closed (who : Requester) {r : ValveRec} (h : r.pos = .closed) :
    (r.request who .openEnd).pos = .opening := by
  simp [ValveRec.request, h, ValveRec.begin, ValveRec.join, ValveEnd.moving]

/-- The valves of a ripened filter: EFF opening, the others as they were (R140). -/
theorem State.ripened_valve (s : State) (w : Valve) :
    s.ripened.valve w = if w = .eff then (s.valve .eff).request .sequencer .openEnd else s.valve w :=
  s.requestMove_valve _ _ _ w

/-- Success with EFF and FTW closed: the new run's record and urgency, the service state, the ripening at IDLE, and the
STATUS asked for (R140, R46, R21, R22, R28, R29, R54). -/
theorem State.ripeningSucceeded_returns (hs : s.rot.service = .ripening) (he : (s.valve .eff).pos = .closed)
    (hf : (s.valve .ftw).pos = .closed) :
    s.ripeningSucceeded.meas = s.meas ∧ s.ripeningSucceeded.urgencyStands
      ∧ s.ripeningSucceeded.cond = { s.beginRun.cond with
          cH := s.ripeningSucceeded.cond.cH, cT := s.ripeningSucceeded.cond.cT, cU := s.ripeningSucceeded.cond.cU
          urgency := s.ripeningSucceeded.cond.urgency }
      ∧ s.ripeningSucceeded.rot = { s.rot with
          service := s.ripenedInto, manual := s.rot.manual || s.rot.deferredWashNow, deferredWashNow := false
          oversub := false }
      ∧ s.ripeningSucceeded.rip = s.rip.idled ∧ s.ripeningSucceeded.seq = s.seq
      ∧ (∀ w, s.ripeningSucceeded.valve w = s.ripened.valve w) ∧ StatusAsked s s.ripeningSucceeded := by
  have heff : (s.ripened.valve .eff).pos ≠ .opened := by
    rw [s.ripened_valve, if_pos rfl, ValveRec.request_open_closed _ he]
    exact PosState.noConfusion
  have hftw : (s.ripened.valve .ftw).pos ≠ .opened := by
    rw [s.ripened_valve, if_neg (by decide), hf]
    exact PosState.noConfusion
  have hout : s.ripened.rot.service.outOfRun = true := by
    have hserv : s.ripened.rot.service = .ripening := hs
    rw [hserv]
    rfl
  have hin := s.ripenedInto_delivering
  obtain ⟨hmeas, hcond, hurgency⟩ := State.changeState_entersRun hout hin heff hftw
  have hcfg : (s.ripened.changeState s.ripenedInto).cfg = s.ripened.cfg := by simp [State.cfg]
  rw [State.ripeningSucceeded_eq]
  refine ⟨hmeas, State.urgencyStands_of_components ?_ ?_ ?_ hurgency, ?_, ?_, ?_, State.changeState_seq _ _,
    fun w => State.changeState_valve _ _ w, (State.changeState_asked _ _).of_link rfl⟩
  · rw [hcond, hmeas, hcfg]
  · rw [hcond, hcfg]
  · rw [hcond, hmeas, hcfg]
  · rw [hcond]
    rfl
  · have hocc : s.ripenedInto.occupies = false := by unfold State.ripenedInto; split <;> rfl
    rw [State.changeState_rot, hocc, ServiceState.outOfRun_of_delivering hin]
    simp [State.ripened]
  · exact State.changeState_rip (by exact RipeningStep.noConfusion) _

/-- Settles O48: the target switch completes FTW's close, ENDING takes the success actions, and the change of service state
computes the new run's urgency. -/
theorem ripenedFilterReturns : Obligations.RipenedFilterReturns := by
  intro s hr hs he hp hd heff hm
  have hexec := exec_targetSwitchMade_ripened hr hs he hp hd
  have hquiet := s.targetSwitch_quiet .ftw
  rw [Host.Outcome.next.inj hexec] at hquiet
  have hxeff : (s.ftwClosed.valve .eff).pos = .closed := by rw [s.ftwClosed_valve, if_neg (by decide), heff]
  have hxftw := s.ftwClosed_valve .ftw
  rw [if_pos rfl] at hxftw
  obtain ⟨hmeas, hstands, hcond, hrot, hrip, hseq, hvalves, hasked⟩ :=
    State.ripeningSucceeded_returns (s := s.ftwClosed) hs hxeff (congrArg ValveRec.pos hxftw)
  have hvalve (w : Valve) := (hvalves w).trans (s.ftwClosed.ripened_valve w)
  refine ⟨_, hexec, hquiet, by rw [hrot]; rfl, ?_, by rw [hrot], by rw [hrot]; rfl, ?_, ?_, ?_, ?_,
    by rw [hcond]; rfl, by rw [hcond]; rfl, by rw [hcond]; rfl, ?_, by rw [hcond]; rfl, hstands, by rw [hmeas]; rfl,
    hrip, hseq, hasked.of_link rfl⟩
  · have hmanual : (s.ftwClosed.rot.manual || s.ftwClosed.rot.deferredWashNow) = s.rot.deferredWashNow :=
      (congrArg (· || s.rot.deferredWashNow) hm).trans (Bool.false_or _)
    rw [hrot, hmanual]
  · rw [hvalve, if_neg (by decide), hxftw]
    rfl
  · rw [hvalve, if_neg (by decide), hxftw]
    rfl
  · rw [hvalve, if_pos rfl, ValveRec.request_commanded]
  · rw [hvalve, if_pos rfl, ValveRec.request_open_closed _ hxeff]
  · rw [hcond]
    exact decide_eq_true_iff

end Sys2Proof.Machine
end
